-- ==== Sys2Proof/Word.lean ====
section
/-!
DEFINITION. The machine's word.  Every access of TTXCODEC is one byte (20_memory.md R42); bit 0 is the
least significant bit and bit 7 the most significant.
-/

namespace Sys2Proof

/-- A byte: 8 bits, bit 0 least significant (00_scope.md section 5, 20_memory.md R42). -/
abbrev Byte := BitVec 8

end Sys2Proof
end

