-- ==== Sys2Proof/Config.lean ====
section
/-!
DEFINITION. What is fixed for the machine.  The block has no optional features and no configuration
switches (00_scope.md R9), and the spec leaves no result value open, so there is no free value here.
The one quantity left to the caller, `LINE_LEN`, is the length of the operand each FRAME request is
handed (00_scope.md R9, 92_eei_decisions.md D15).
-/

namespace Sys2Proof.Config

/-- The least length of a FRAME operand: `LINE_LEN >= 4` (00_scope.md R9, 44_framer.md R142). -/
def minLineLen : Nat := 4

end Sys2Proof.Config
end

