-- ==== Sys2Proof/Syntax.lean ====
section
/-!
DEFINITION. Requests, the five operations, and the instructions a request stands for
(30_encoding.md R60, R61, R63).
-/

namespace Sys2Proof

/-- The five operations (00_scope.md R2, 30_encoding.md R61): the whole operation set, none of them a
system operation (60_exceptions.md R174). -/
inductive Op where
  /-- `HAM84`: Hamming 8/4 decoder (R90). -/
  | ham84
  /-- `HAM2418`: Hamming 24/18 decoder with single-bit-error correction (R100). -/
  | ham2418
  /-- `ODDPAR`: odd-parity decoder (R120). -/
  | oddpar
  /-- `REV8`: bit-reversal unit (R125). -/
  | rev8
  /-- `FRAME`: teletext packet framer (R130). -/
  | frame
deriving DecidableEq, Repr

/-- The request formats, one for each operand shape (30_encoding.md R60). -/
inductive Format where
  /-- `B1`: one operand byte. -/
  | b1
  /-- `B3`: three operand bytes. -/
  | b3
  /-- `BN`: `LINE_LEN >= 4` operand bytes. -/
  | bn
deriving DecidableEq, Repr

/-- A request as the block receives it: a 3-bit operation select and the operand bytes, carried by
value (30_encoding.md R60, 20_memory.md R53).  It need not be one the block gives a meaning to. -/
structure Request where
  /-- The operation select `op[2:0]`. -/
  op : BitVec 3
  /-- The operand buffer, byte 0 first. -/
  operand : List Byte
deriving DecidableEq, Repr

/-- The instructions: one constructor for each row of the opcode table, with its operand bytes. -/
inductive Instr where
  /-- `HAM84 b` (R90). -/
  | ham84 (b : Byte)
  /-- `HAM2418 t0 t1 t2` (R100). -/
  | ham2418 (t0 t1 t2 : Byte)
  /-- `ODDPAR b` (R120). -/
  | oddpar (b : Byte)
  /-- `REV8 b` (R125). -/
  | rev8 (b : Byte)
  /-- `FRAME buf` (R130); well-formed when `buf` has at least 4 bytes (R142). -/
  | frame (buf : List Byte)
deriving DecidableEq, Repr

/-- The operation an instruction performs. -/
def Instr.op : Instr → Op
  | .ham84 _ => .ham84
  | .ham2418 _ _ _ => .ham2418
  | .oddpar _ => .oddpar
  | .rev8 _ => .rev8
  | .frame _ => .frame

/-- The operand bytes an instruction carries, byte 0 first (30_encoding.md R60, R63). -/
def Instr.operand : Instr → List Byte
  | .ham84 b => [b]
  | .ham2418 t0 t1 t2 => [t0, t1, t2]
  | .oddpar b => [b]
  | .rev8 b => [b]
  | .frame buf => buf

end Sys2Proof
end

