-- ==== Sys2Proof/WellFormed.lean ====
section
/-!
DEFINITION. Which instruction terms are requests of the block.  The operand lengths of B1 and B3 are
in the constructors; the one check left is the least length of a line buffer (44_framer.md R142).
-/

namespace Sys2Proof

/-- A FRAME operand has at least 4 bytes (44_framer.md R142, 30_encoding.md R63); every other term is
well-formed, whatever its bytes (00_scope.md R8). -/
def Instr.wf : Instr → Bool
  | .ham84 _ => true
  | .ham2418 _ _ _ => true
  | .oddpar _ => true
  | .rev8 _ => true
  | .frame buf => decide (Config.minLineLen ≤ buf.length)

end Sys2Proof
end

