-- ==== Sys2Proof/Decode.lean ====
section
/-!
DEFINITION. The decoder from requests to instructions, total and rejecting by name, and after it the
encoder (30_encoding.md R60 to R63), the flat words of R60, and the host's view of a request as a
table word.
-/

namespace Sys2Proof

/-- One row of the operation-select map: a select matches when `op & mask == pattern`
(30_encoding.md R61 and opcode_table.json). -/
structure OpcodeRow where
  /-- The bits of the select that are compared. -/
  mask : BitVec 3
  /-- Their values. -/
  pattern : BitVec 3
  /-- The operation selected. -/
  op : Op
  /-- Its request format. -/
  format : Format
deriving DecidableEq, Repr

/-- The operation-select map (30_encoding.md R61). -/
def opcodeTable : List OpcodeRow :=
  [ ⟨0b111#3, 0b000#3, .ham84, .b1⟩,
    ⟨0b111#3, 0b001#3, .ham2418, .b3⟩,
    ⟨0b111#3, 0b010#3, .oddpar, .b1⟩,
    ⟨0b111#3, 0b011#3, .rev8, .b1⟩,
    ⟨0b111#3, 0b100#3, .frame, .bn⟩ ]

/-- The row a select matches, if any; selects 5, 6 and 7 match none (30_encoding.md R62). -/
def rowOfSelect (op : BitVec 3) : Option OpcodeRow :=
  opcodeTable.find? fun row => op &&& row.mask == row.pattern

/-- Why a request is not a request of the block. -/
inductive DecodeError where
  /-- The operation select is 5, 6 or 7 (30_encoding.md R62). -/
  | reservedSelect (op : BitVec 3)
  /-- A HAM84, ODDPAR or REV8 operand that is not one byte, or a HAM2418 operand that is not three
  (30_encoding.md R63, 20_memory.md R47). -/
  | operandLength (op : BitVec 3) (len : Nat)
  /-- A FRAME operand of fewer than 4 bytes (44_framer.md R142, 20_memory.md R47). -/
  | lineTooShort (len : Nat)
deriving DecidableEq, Repr

/-- The instruction of an operation and an operand of the length its format fixes
(30_encoding.md R60, R63). -/
def instrOf (op : Op) (sel : BitVec 3) (operand : List Byte) : Except DecodeError Instr :=
  match op, operand with
  | .ham84, [b] => .ok (.ham84 b)
  | .ham2418, [t0, t1, t2] => .ok (.ham2418 t0 t1 t2)
  | .oddpar, [b] => .ok (.oddpar b)
  | .rev8, [b] => .ok (.rev8 b)
  | .frame, buf =>
    if Config.minLineLen ≤ buf.length then .ok (.frame buf) else .error (.lineTooShort buf.length)
  | .ham84, other => .error (.operandLength sel other.length)
  | .ham2418, other => .error (.operandLength sel other.length)
  | .oddpar, other => .error (.operandLength sel other.length)
  | .rev8, other => .error (.operandLength sel other.length)

/-- The decoder: match `op` against the five values, then take the operand by its format
(30_encoding.md R61); the operand carries no further opcode bits. -/
def decode (r : Request) : Except DecodeError Instr :=
  match rowOfSelect r.op with
  | some row => instrOf row.op r.op r.operand
  | none => .error (.reservedSelect r.op)

/-! ## The encoder -/

/-- The operation select of an operation (30_encoding.md R61). -/
def Op.select : Op → BitVec 3
  | .ham84 => 0b000#3
  | .ham2418 => 0b001#3
  | .oddpar => 0b010#3
  | .rev8 => 0b011#3
  | .frame => 0b100#3

/-- The request format of an operation (30_encoding.md R61). -/
def Op.format : Op → Format
  | .ham84 => .b1
  | .ham2418 => .b3
  | .oddpar => .b1
  | .rev8 => .b1
  | .frame => .bn

/-- Whether a format admits an operand of `len` bytes (30_encoding.md R60, R63). -/
def Format.admits : Format → Nat → Bool
  | .b1, len => len == 1
  | .b3, len => len == 3
  | .bn, len => decide (Config.minLineLen ≤ len)

/-- The request of an instruction: its select and its operand bytes (30_encoding.md R60). -/
def encode (i : Instr) : Request := ⟨i.op.select, i.operand⟩

/-! ## Flat words (30_encoding.md R60)

"A realisation that wants one flat word may place `op` above the operand bytes, with `operand[0]` in
the lowest byte lane": 11 bits for B1, 27 bits for B3. -/

/-- The 11-bit word of a B1 request, `op[2:0] ++ b[7:0]`. -/
def flatB1 (op : BitVec 3) (b : Byte) : BitVec 11 := op ++ b

/-- The 27-bit word of a B3 request, `op ++ t[2] ++ t[1] ++ t[0]`. -/
def flatB3 (op : BitVec 3) (t0 t1 t2 : Byte) : BitVec 27 := op ++ t2 ++ t1 ++ t0

/-- The request in an 11-bit flat word. -/
def requestOfFlatB1 (w : BitVec 11) : Request := ⟨w.extractLsb' 8 3, [w.extractLsb' 0 8]⟩

/-- The request in a 27-bit flat word. -/
def requestOfFlatB3 (w : BitVec 27) : Request :=
  ⟨w.extractLsb' 24 3, [w.extractLsb' 0 8, w.extractLsb' 8 8, w.extractLsb' 16 8]⟩

/-! ## The host's table words -/

/-- The low `n` bytes of a number, least significant first. -/
def bytesOfNat : Nat → Nat → List Byte
  | 0, _ => []
  | n + 1, w => BitVec.ofNat 8 w :: bytesOfNat n (w / 256)

/-- How many operand bytes a table word of `nbits` bits stands for: what the format fixes, and for
BN the bytes the word holds after its select byte, at least 4.  A select of no operation has none. -/
def tableOperandLength (op : BitVec 3) (nbits : Nat) : Nat :=
  match rowOfSelect op with
  | none => 0
  | some row =>
    match row.format with
    | .b1 => 1
    | .b3 => 3
    | .bn => max Config.minLineLen (nbits / 8 - 1)

/-- The request of a table word: the select in bits 2..0 of the first byte, as opcode_table.json
numbers it, and operand byte `k` in bits `8k+15..8k+8`; every bit above `nbits` is 0.
DESIGN CHOICE, safe, log entry 7. -/
def tableRequest (nbits w : Nat) : Request :=
  let op := BitVec.ofNat 3 w
  ⟨op, bytesOfNat (tableOperandLength op nbits) (w % 2 ^ nbits / 256)⟩

/-- The instruction the decoder reads from a table word; `none` where it refuses. -/
def decodeTableWord (nbits w : Nat) : Option Instr :=
  match decode (tableRequest nbits w) with
  | .ok i => some i
  | .error _ => none

end Sys2Proof
end

