-- ==== Sys2Proof/Machine/State.lean ====
section
/-!
DEFINITION. The state, the Packet record, responses, and the ways a step can stop.

The spec's architectural state is EMPTY (10_state.md R20 to R24, R31, R32): no registers, no program
counter, no flags, no memory.  What `State` holds is the block's interface at transaction level
(00_scope.md R6): the requests in progress, what happens next, and the responses delivered
(DESIGN CHOICE, unsafe, log entries 1, 3 and 5).  The constant tables are in Machine/Tables.lean.
-/

namespace Sys2Proof.Machine

/-- The packet types, in the order of 10_state.md R28. -/
inductive PacketType where
  | header
  | pageBody
  | fastext
  | topCommentary
  | pageReplacements
  | linkedPages
  | pageEnhancements
  | magazineEnhancements
  | broadcastServiceData
  | unspecified
deriving DecidableEq, Repr

/-- The result of FRAME (10_state.md R28): optional fields are real optionals (70_reset_and_hazards.md
R185). -/
structure Packet where
  /-- The framing-code byte as read. -/
  framingCode : Byte
  /-- The magazine, 1 to 8 when present. -/
  magazine : Option Nat
  /-- The packet number, 0 to 31 when present. -/
  number : Option Nat
  /-- The packet type. -/
  type : PacketType
  /-- The one status flag of the block (10_state.md R23). -/
  decodingError : Bool
  /-- The bytes from offset 4 on, unchanged (20_memory.md R54). -/
  data : List Byte
deriving DecidableEq, Repr

/-- The transient values of one FRAME request (10_state.md R26) beside the fields of the Packet being
built, with the widths of R26.  `numRaw` needs at least 9 bits and is a Nat (92_eei_decisions.md
D14).  None survives the request, so none is in `State`. -/
structure FrameRun where
  framingCode : Byte
  address1 : Byte
  magRaw : BitVec 3
  address2 : Byte
  numRaw : Nat
  decodingError : Bool
  type : PacketType
  magazine : Option Nat
  number : Option Nat
  data : List Byte
deriving DecidableEq, Repr

/-- The fields of a line buffer that FRAME reads (20_memory.md R41): the bytes at offsets 1, 2 and 3
and those from 4 on.  Offset 0 is never read. -/
structure LineFields where
  framing : Byte
  addr1 : Byte
  addr2 : Byte
  payload : List Byte
deriving DecidableEq, Repr

/-- The response shapes (30_encoding.md R64). -/
inductive Response where
  /-- One byte: HAM84, ODDPAR, REV8. -/
  | byte (r : Byte)
  /-- Three bytes: HAM2418. -/
  | triplet (r0 r1 r2 : Byte)
  /-- One Packet: FRAME. -/
  | packet (p : Packet)
deriving DecidableEq, Repr

/-- One completed transaction: the instruction a request stood for and its response.  Pairing a response
with its request is DESIGN CHOICE, unsafe, log entry 14: when responses come out of order, matching them
is the interface's business and outside the spec (70_reset_and_hazards.md R183, 92_eei_decisions.md
D19). -/
structure Delivery where
  instr : Instr
  response : Response
deriving DecidableEq, Repr

/-- What happens next at the instance. -/
inductive Event where
  /-- The request at this place of the requests in progress is served; the spec fixes no order
  (20_memory.md R48, 70_reset_and_hazards.md R183). -/
  | serve (place : Nat)
  /-- A reset is asserted (70_reset_and_hazards.md R180). -/
  | reset
deriving DecidableEq, Repr

/-- The state of one instance with its caller's side of the interface: plain data. -/
structure State where
  /-- The requests in progress, oldest first. -/
  requests : List Request
  /-- What happens next, first event first; when it is empty the oldest request is served. -/
  schedule : List Event
  /-- The responses delivered to the caller, oldest first; the block never reads it. -/
  delivered : List Delivery
deriving DecidableEq, Repr

/-- The block has no fault, trap or exception, for any operand (60_exceptions.md R160, R165): this
type has no constructor.  Nobody raises one.  Safe: it is what the spec says. -/
inductive Fault
deriving DecidableEq, Repr

/-- Why the model gives a request no meaning: "a modelling boundary and not a behaviour of the block"
(60_exceptions.md R160). -/
inductive Refusal where
  /-- Raised by an arm of `exec` whose instruction has no meaning yet.  Safe.  No arm is left. -/
  | notModelled (mnemonic : String)
  /-- Raised by `step` on a request with operation select 5, 6 or 7 (30_encoding.md R62).  Safe. -/
  | reservedSelect (op : BitVec 3)
  /-- Raised by `step` on a HAM84, ODDPAR, REV8 or HAM2418 request whose operand has another length
  than its format fixes (30_encoding.md R63, 20_memory.md R47).  Safe. -/
  | operandLength (op : BitVec 3) (len : Nat)
  /-- Raised by `step` and by the meaning of FRAME on an operand of fewer than 4 bytes
  (20_memory.md R47, 44_framer.md R142).  Safe. -/
  | lineTooShort (len : Nat)
deriving DecidableEq, Repr

/-- The machine right after reset: idle, with nothing in progress and nothing delivered
(70_reset_and_hazards.md R180, 10_state.md R30).  The empty `schedule` and `delivered` are the
model's DESIGN CHOICE (unsafe, log entries 1 and 3). -/
def State.reset : State := { requests := [], schedule := [], delivered := [] }

end Sys2Proof.Machine
end

