-- ==== Sys2Proof/Machine/Tables.lean ====
section
/-!
DEFINITION. The constant tables of the block (10_state.md R25) as the spec prints them, the reads of
them, and the fixed constants of 00_scope.md R10.  They are ROM: no request changes them and no
request can address them (20_memory.md R40, R51), so they are definitions and no part of State
(DESIGN CHOICE, safe, log entry 10).  Their contents and the constants are the spec's (UNVERIFIED,
unsafe, log entry 8).
-/

namespace Sys2Proof.Machine

/-! ## Fixed constants (00_scope.md R10) -/

/-- The expected framing code, `FC_EXPECTED`. -/
def framingCodeExpected : Byte := 0xE4#8

/-- The failure sentinel of HAM84, and each byte of that of HAM2418 (30_encoding.md R75). -/
def sentinelByte : Byte := 0xFF#8

/-- The substitute ODDPAR returns on a parity failure (30_encoding.md R75). -/
def paritySubstitute : Byte := 0x20#8

/-- The uncorrectable flag of the correction-mask table (41_hamming2418.md R105). -/
def uncorrectableMask : BitVec 32 := 0x80000000#32

/-! ## The tables -/

/-- `T_HAM84`, row `r`, column `c` giving entry `0xrc` (40_hamming84.md R92). -/
def romHam84 : List (BitVec 8) :=
  [0x01#8, 0xFF#8, 0x01#8, 0x01#8, 0xFF#8, 0x00#8, 0x01#8, 0xFF#8, 0xFF#8, 0x02#8, 0x01#8, 0xFF#8, 0x0A#8, 0xFF#8, 0xFF#8, 0x07#8] ++
  [0xFF#8, 0x00#8, 0x01#8, 0xFF#8, 0x00#8, 0x00#8, 0xFF#8, 0x00#8, 0x06#8, 0xFF#8, 0xFF#8, 0x0B#8, 0xFF#8, 0x00#8, 0x03#8, 0xFF#8] ++
  [0xFF#8, 0x0C#8, 0x01#8, 0xFF#8, 0x04#8, 0xFF#8, 0xFF#8, 0x07#8, 0x06#8, 0xFF#8, 0xFF#8, 0x07#8, 0xFF#8, 0x07#8, 0x07#8, 0x07#8] ++
  [0x06#8, 0xFF#8, 0xFF#8, 0x05#8, 0xFF#8, 0x00#8, 0x0D#8, 0xFF#8, 0x06#8, 0x06#8, 0x06#8, 0xFF#8, 0x06#8, 0xFF#8, 0xFF#8, 0x07#8] ++
  [0xFF#8, 0x02#8, 0x01#8, 0xFF#8, 0x04#8, 0xFF#8, 0xFF#8, 0x09#8, 0x02#8, 0x02#8, 0xFF#8, 0x02#8, 0xFF#8, 0x02#8, 0x03#8, 0xFF#8] ++
  [0x08#8, 0xFF#8, 0xFF#8, 0x05#8, 0xFF#8, 0x00#8, 0x03#8, 0xFF#8, 0xFF#8, 0x02#8, 0x03#8, 0xFF#8, 0x03#8, 0xFF#8, 0x03#8, 0x03#8] ++
  [0x04#8, 0xFF#8, 0xFF#8, 0x05#8, 0x04#8, 0x04#8, 0x04#8, 0xFF#8, 0xFF#8, 0x02#8, 0x0F#8, 0xFF#8, 0x04#8, 0xFF#8, 0xFF#8, 0x07#8] ++
  [0xFF#8, 0x05#8, 0x05#8, 0x05#8, 0x04#8, 0xFF#8, 0xFF#8, 0x05#8, 0x06#8, 0xFF#8, 0xFF#8, 0x05#8, 0xFF#8, 0x0E#8, 0x03#8, 0xFF#8] ++
  [0xFF#8, 0x0C#8, 0x01#8, 0xFF#8, 0x0A#8, 0xFF#8, 0xFF#8, 0x09#8, 0x0A#8, 0xFF#8, 0xFF#8, 0x0B#8, 0x0A#8, 0x0A#8, 0x0A#8, 0xFF#8] ++
  [0x08#8, 0xFF#8, 0xFF#8, 0x0B#8, 0xFF#8, 0x00#8, 0x0D#8, 0xFF#8, 0xFF#8, 0x0B#8, 0x0B#8, 0x0B#8, 0x0A#8, 0xFF#8, 0xFF#8, 0x0B#8] ++
  [0x0C#8, 0x0C#8, 0xFF#8, 0x0C#8, 0xFF#8, 0x0C#8, 0x0D#8, 0xFF#8, 0xFF#8, 0x0C#8, 0x0F#8, 0xFF#8, 0x0A#8, 0xFF#8, 0xFF#8, 0x07#8] ++
  [0xFF#8, 0x0C#8, 0x0D#8, 0xFF#8, 0x0D#8, 0xFF#8, 0x0D#8, 0x0D#8, 0x06#8, 0xFF#8, 0xFF#8, 0x0B#8, 0xFF#8, 0x0E#8, 0x0D#8, 0xFF#8] ++
  [0x08#8, 0xFF#8, 0xFF#8, 0x09#8, 0xFF#8, 0x09#8, 0x09#8, 0x09#8, 0xFF#8, 0x02#8, 0x0F#8, 0xFF#8, 0x0A#8, 0xFF#8, 0xFF#8, 0x09#8] ++
  [0x08#8, 0x08#8, 0x08#8, 0xFF#8, 0x08#8, 0xFF#8, 0xFF#8, 0x09#8, 0x08#8, 0xFF#8, 0xFF#8, 0x0B#8, 0xFF#8, 0x0E#8, 0x03#8, 0xFF#8] ++
  [0xFF#8, 0x0C#8, 0x0F#8, 0xFF#8, 0x04#8, 0xFF#8, 0xFF#8, 0x09#8, 0x0F#8, 0xFF#8, 0x0F#8, 0x0F#8, 0xFF#8, 0x0E#8, 0x0F#8, 0xFF#8] ++
  [0x08#8, 0xFF#8, 0xFF#8, 0x05#8, 0xFF#8, 0x0E#8, 0x0D#8, 0xFF#8, 0xFF#8, 0x0E#8, 0x0F#8, 0xFF#8, 0x0E#8, 0x0E#8, 0xFF#8, 0x0E#8]

/-- `T_D1D4`, 16 entries a row (41_hamming2418.md R102). -/
def romD1D4 : List (BitVec 4) :=
  [0x00#4, 0x01#4, 0x00#4, 0x01#4, 0x02#4, 0x03#4, 0x02#4, 0x03#4, 0x04#4, 0x05#4, 0x04#4, 0x05#4, 0x06#4, 0x07#4, 0x06#4, 0x07#4] ++
  [0x08#4, 0x09#4, 0x08#4, 0x09#4, 0x0A#4, 0x0B#4, 0x0A#4, 0x0B#4, 0x0C#4, 0x0D#4, 0x0C#4, 0x0D#4, 0x0E#4, 0x0F#4, 0x0E#4, 0x0F#4] ++
  [0x00#4, 0x01#4, 0x00#4, 0x01#4, 0x02#4, 0x03#4, 0x02#4, 0x03#4, 0x04#4, 0x05#4, 0x04#4, 0x05#4, 0x06#4, 0x07#4, 0x06#4, 0x07#4] ++
  [0x08#4, 0x09#4, 0x08#4, 0x09#4, 0x0A#4, 0x0B#4, 0x0A#4, 0x0B#4, 0x0C#4, 0x0D#4, 0x0C#4, 0x0D#4, 0x0E#4, 0x0F#4, 0x0E#4, 0x0F#4]

/-- `T_PAR0` (41_hamming2418.md R104). -/
def romPar0 : List (BitVec 6) :=
  [0x00#6, 0x21#6, 0x22#6, 0x03#6, 0x23#6, 0x02#6, 0x01#6, 0x20#6, 0x24#6, 0x05#6, 0x06#6, 0x27#6, 0x07#6, 0x26#6, 0x25#6, 0x04#6] ++
  [0x25#6, 0x04#6, 0x07#6, 0x26#6, 0x06#6, 0x27#6, 0x24#6, 0x05#6, 0x01#6, 0x20#6, 0x23#6, 0x02#6, 0x22#6, 0x03#6, 0x00#6, 0x21#6] ++
  [0x26#6, 0x07#6, 0x04#6, 0x25#6, 0x05#6, 0x24#6, 0x27#6, 0x06#6, 0x02#6, 0x23#6, 0x20#6, 0x01#6, 0x21#6, 0x00#6, 0x03#6, 0x22#6] ++
  [0x03#6, 0x22#6, 0x21#6, 0x00#6, 0x20#6, 0x01#6, 0x02#6, 0x23#6, 0x27#6, 0x06#6, 0x05#6, 0x24#6, 0x04#6, 0x25#6, 0x26#6, 0x07#6] ++
  [0x27#6, 0x06#6, 0x05#6, 0x24#6, 0x04#6, 0x25#6, 0x26#6, 0x07#6, 0x03#6, 0x22#6, 0x21#6, 0x00#6, 0x20#6, 0x01#6, 0x02#6, 0x23#6] ++
  [0x02#6, 0x23#6, 0x20#6, 0x01#6, 0x21#6, 0x00#6, 0x03#6, 0x22#6, 0x26#6, 0x07#6, 0x04#6, 0x25#6, 0x05#6, 0x24#6, 0x27#6, 0x06#6] ++
  [0x01#6, 0x20#6, 0x23#6, 0x02#6, 0x22#6, 0x03#6, 0x00#6, 0x21#6, 0x25#6, 0x04#6, 0x07#6, 0x26#6, 0x06#6, 0x27#6, 0x24#6, 0x05#6] ++
  [0x24#6, 0x05#6, 0x06#6, 0x27#6, 0x07#6, 0x26#6, 0x25#6, 0x04#6, 0x00#6, 0x21#6, 0x22#6, 0x03#6, 0x23#6, 0x02#6, 0x01#6, 0x20#6] ++
  [0x28#6, 0x09#6, 0x0A#6, 0x2B#6, 0x0B#6, 0x2A#6, 0x29#6, 0x08#6, 0x0C#6, 0x2D#6, 0x2E#6, 0x0F#6, 0x2F#6, 0x0E#6, 0x0D#6, 0x2C#6] ++
  [0x0D#6, 0x2C#6, 0x2F#6, 0x0E#6, 0x2E#6, 0x0F#6, 0x0C#6, 0x2D#6, 0x29#6, 0x08#6, 0x0B#6, 0x2A#6, 0x0A#6, 0x2B#6, 0x28#6, 0x09#6] ++
  [0x0E#6, 0x2F#6, 0x2C#6, 0x0D#6, 0x2D#6, 0x0C#6, 0x0F#6, 0x2E#6, 0x2A#6, 0x0B#6, 0x08#6, 0x29#6, 0x09#6, 0x28#6, 0x2B#6, 0x0A#6] ++
  [0x2B#6, 0x0A#6, 0x09#6, 0x28#6, 0x08#6, 0x29#6, 0x2A#6, 0x0B#6, 0x0F#6, 0x2E#6, 0x2D#6, 0x0C#6, 0x2C#6, 0x0D#6, 0x0E#6, 0x2F#6] ++
  [0x0F#6, 0x2E#6, 0x2D#6, 0x0C#6, 0x2C#6, 0x0D#6, 0x0E#6, 0x2F#6, 0x2B#6, 0x0A#6, 0x09#6, 0x28#6, 0x08#6, 0x29#6, 0x2A#6, 0x0B#6] ++
  [0x2A#6, 0x0B#6, 0x08#6, 0x29#6, 0x09#6, 0x28#6, 0x2B#6, 0x0A#6, 0x0E#6, 0x2F#6, 0x2C#6, 0x0D#6, 0x2D#6, 0x0C#6, 0x0F#6, 0x2E#6] ++
  [0x29#6, 0x08#6, 0x0B#6, 0x2A#6, 0x0A#6, 0x2B#6, 0x28#6, 0x09#6, 0x0D#6, 0x2C#6, 0x2F#6, 0x0E#6, 0x2E#6, 0x0F#6, 0x0C#6, 0x2D#6] ++
  [0x0C#6, 0x2D#6, 0x2E#6, 0x0F#6, 0x2F#6, 0x0E#6, 0x0D#6, 0x2C#6, 0x28#6, 0x09#6, 0x0A#6, 0x2B#6, 0x0B#6, 0x2A#6, 0x29#6, 0x08#6]

/-- `T_PAR1` (41_hamming2418.md R104). -/
def romPar1 : List (BitVec 6) :=
  [0x00#6, 0x29#6, 0x2A#6, 0x03#6, 0x2B#6, 0x02#6, 0x01#6, 0x28#6, 0x2C#6, 0x05#6, 0x06#6, 0x2F#6, 0x07#6, 0x2E#6, 0x2D#6, 0x04#6] ++
  [0x2D#6, 0x04#6, 0x07#6, 0x2E#6, 0x06#6, 0x2F#6, 0x2C#6, 0x05#6, 0x01#6, 0x28#6, 0x2B#6, 0x02#6, 0x2A#6, 0x03#6, 0x00#6, 0x29#6] ++
  [0x2E#6, 0x07#6, 0x04#6, 0x2D#6, 0x05#6, 0x2C#6, 0x2F#6, 0x06#6, 0x02#6, 0x2B#6, 0x28#6, 0x01#6, 0x29#6, 0x00#6, 0x03#6, 0x2A#6] ++
  [0x03#6, 0x2A#6, 0x29#6, 0x00#6, 0x28#6, 0x01#6, 0x02#6, 0x2B#6, 0x2F#6, 0x06#6, 0x05#6, 0x2C#6, 0x04#6, 0x2D#6, 0x2E#6, 0x07#6] ++
  [0x2F#6, 0x06#6, 0x05#6, 0x2C#6, 0x04#6, 0x2D#6, 0x2E#6, 0x07#6, 0x03#6, 0x2A#6, 0x29#6, 0x00#6, 0x28#6, 0x01#6, 0x02#6, 0x2B#6] ++
  [0x02#6, 0x2B#6, 0x28#6, 0x01#6, 0x29#6, 0x00#6, 0x03#6, 0x2A#6, 0x2E#6, 0x07#6, 0x04#6, 0x2D#6, 0x05#6, 0x2C#6, 0x2F#6, 0x06#6] ++
  [0x01#6, 0x28#6, 0x2B#6, 0x02#6, 0x2A#6, 0x03#6, 0x00#6, 0x29#6, 0x2D#6, 0x04#6, 0x07#6, 0x2E#6, 0x06#6, 0x2F#6, 0x2C#6, 0x05#6] ++
  [0x2C#6, 0x05#6, 0x06#6, 0x2F#6, 0x07#6, 0x2E#6, 0x2D#6, 0x04#6, 0x00#6, 0x29#6, 0x2A#6, 0x03#6, 0x2B#6, 0x02#6, 0x01#6, 0x28#6] ++
  [0x30#6, 0x19#6, 0x1A#6, 0x33#6, 0x1B#6, 0x32#6, 0x31#6, 0x18#6, 0x1C#6, 0x35#6, 0x36#6, 0x1F#6, 0x37#6, 0x1E#6, 0x1D#6, 0x34#6] ++
  [0x1D#6, 0x34#6, 0x37#6, 0x1E#6, 0x36#6, 0x1F#6, 0x1C#6, 0x35#6, 0x31#6, 0x18#6, 0x1B#6, 0x32#6, 0x1A#6, 0x33#6, 0x30#6, 0x19#6] ++
  [0x1E#6, 0x37#6, 0x34#6, 0x1D#6, 0x35#6, 0x1C#6, 0x1F#6, 0x36#6, 0x32#6, 0x1B#6, 0x18#6, 0x31#6, 0x19#6, 0x30#6, 0x33#6, 0x1A#6] ++
  [0x33#6, 0x1A#6, 0x19#6, 0x30#6, 0x18#6, 0x31#6, 0x32#6, 0x1B#6, 0x1F#6, 0x36#6, 0x35#6, 0x1C#6, 0x34#6, 0x1D#6, 0x1E#6, 0x37#6] ++
  [0x1F#6, 0x36#6, 0x35#6, 0x1C#6, 0x34#6, 0x1D#6, 0x1E#6, 0x37#6, 0x33#6, 0x1A#6, 0x19#6, 0x30#6, 0x18#6, 0x31#6, 0x32#6, 0x1B#6] ++
  [0x32#6, 0x1B#6, 0x18#6, 0x31#6, 0x19#6, 0x30#6, 0x33#6, 0x1A#6, 0x1E#6, 0x37#6, 0x34#6, 0x1D#6, 0x35#6, 0x1C#6, 0x1F#6, 0x36#6] ++
  [0x31#6, 0x18#6, 0x1B#6, 0x32#6, 0x1A#6, 0x33#6, 0x30#6, 0x19#6, 0x1D#6, 0x34#6, 0x37#6, 0x1E#6, 0x36#6, 0x1F#6, 0x1C#6, 0x35#6] ++
  [0x1C#6, 0x35#6, 0x36#6, 0x1F#6, 0x37#6, 0x1E#6, 0x1D#6, 0x34#6, 0x30#6, 0x19#6, 0x1A#6, 0x33#6, 0x1B#6, 0x32#6, 0x31#6, 0x18#6]

/-- `T_PAR2` (41_hamming2418.md R104). -/
def romPar2 : List (BitVec 6) :=
  [0x3F#6, 0x0E#6, 0x0D#6, 0x3C#6, 0x0C#6, 0x3D#6, 0x3E#6, 0x0F#6, 0x0B#6, 0x3A#6, 0x39#6, 0x08#6, 0x38#6, 0x09#6, 0x0A#6, 0x3B#6] ++
  [0x0A#6, 0x3B#6, 0x38#6, 0x09#6, 0x39#6, 0x08#6, 0x0B#6, 0x3A#6, 0x3E#6, 0x0F#6, 0x0C#6, 0x3D#6, 0x0D#6, 0x3C#6, 0x3F#6, 0x0E#6] ++
  [0x09#6, 0x38#6, 0x3B#6, 0x0A#6, 0x3A#6, 0x0B#6, 0x08#6, 0x39#6, 0x3D#6, 0x0C#6, 0x0F#6, 0x3E#6, 0x0E#6, 0x3F#6, 0x3C#6, 0x0D#6] ++
  [0x3C#6, 0x0D#6, 0x0E#6, 0x3F#6, 0x0F#6, 0x3E#6, 0x3D#6, 0x0C#6, 0x08#6, 0x39#6, 0x3A#6, 0x0B#6, 0x3B#6, 0x0A#6, 0x09#6, 0x38#6] ++
  [0x08#6, 0x39#6, 0x3A#6, 0x0B#6, 0x3B#6, 0x0A#6, 0x09#6, 0x38#6, 0x3C#6, 0x0D#6, 0x0E#6, 0x3F#6, 0x0F#6, 0x3E#6, 0x3D#6, 0x0C#6] ++
  [0x3D#6, 0x0C#6, 0x0F#6, 0x3E#6, 0x0E#6, 0x3F#6, 0x3C#6, 0x0D#6, 0x09#6, 0x38#6, 0x3B#6, 0x0A#6, 0x3A#6, 0x0B#6, 0x08#6, 0x39#6] ++
  [0x3E#6, 0x0F#6, 0x0C#6, 0x3D#6, 0x0D#6, 0x3C#6, 0x3F#6, 0x0E#6, 0x0A#6, 0x3B#6, 0x38#6, 0x09#6, 0x39#6, 0x08#6, 0x0B#6, 0x3A#6] ++
  [0x0B#6, 0x3A#6, 0x39#6, 0x08#6, 0x38#6, 0x09#6, 0x0A#6, 0x3B#6, 0x3F#6, 0x0E#6, 0x0D#6, 0x3C#6, 0x0C#6, 0x3D#6, 0x3E#6, 0x0F#6] ++
  [0x1F#6, 0x2E#6, 0x2D#6, 0x1C#6, 0x2C#6, 0x1D#6, 0x1E#6, 0x2F#6, 0x2B#6, 0x1A#6, 0x19#6, 0x28#6, 0x18#6, 0x29#6, 0x2A#6, 0x1B#6] ++
  [0x2A#6, 0x1B#6, 0x18#6, 0x29#6, 0x19#6, 0x28#6, 0x2B#6, 0x1A#6, 0x1E#6, 0x2F#6, 0x2C#6, 0x1D#6, 0x2D#6, 0x1C#6, 0x1F#6, 0x2E#6] ++
  [0x29#6, 0x18#6, 0x1B#6, 0x2A#6, 0x1A#6, 0x2B#6, 0x28#6, 0x19#6, 0x1D#6, 0x2C#6, 0x2F#6, 0x1E#6, 0x2E#6, 0x1F#6, 0x1C#6, 0x2D#6] ++
  [0x1C#6, 0x2D#6, 0x2E#6, 0x1F#6, 0x2F#6, 0x1E#6, 0x1D#6, 0x2C#6, 0x28#6, 0x19#6, 0x1A#6, 0x2B#6, 0x1B#6, 0x2A#6, 0x29#6, 0x18#6] ++
  [0x28#6, 0x19#6, 0x1A#6, 0x2B#6, 0x1B#6, 0x2A#6, 0x29#6, 0x18#6, 0x1C#6, 0x2D#6, 0x2E#6, 0x1F#6, 0x2F#6, 0x1E#6, 0x1D#6, 0x2C#6] ++
  [0x1D#6, 0x2C#6, 0x2F#6, 0x1E#6, 0x2E#6, 0x1F#6, 0x1C#6, 0x2D#6, 0x29#6, 0x18#6, 0x1B#6, 0x2A#6, 0x1A#6, 0x2B#6, 0x28#6, 0x19#6] ++
  [0x1E#6, 0x2F#6, 0x2C#6, 0x1D#6, 0x2D#6, 0x1C#6, 0x1F#6, 0x2E#6, 0x2A#6, 0x1B#6, 0x18#6, 0x29#6, 0x19#6, 0x28#6, 0x2B#6, 0x1A#6] ++
  [0x2B#6, 0x1A#6, 0x19#6, 0x28#6, 0x18#6, 0x29#6, 0x2A#6, 0x1B#6, 0x1F#6, 0x2E#6, 0x2D#6, 0x1C#6, 0x2C#6, 0x1D#6, 0x1E#6, 0x2F#6]

/-- `T_ERR`, 4 entries a row (41_hamming2418.md R105). -/
def romErr : List (BitVec 32) :=
  [0x00000000#32, 0x80000000#32, 0x80000000#32, 0x80000000#32] ++
  [0x80000000#32, 0x80000000#32, 0x80000000#32, 0x80000000#32] ++
  [0x80000000#32, 0x80000000#32, 0x80000000#32, 0x80000000#32] ++
  [0x80000000#32, 0x80000000#32, 0x80000000#32, 0x80000000#32] ++
  [0x80000000#32, 0x80000000#32, 0x80000000#32, 0x80000000#32] ++
  [0x80000000#32, 0x80000000#32, 0x80000000#32, 0x80000000#32] ++
  [0x80000000#32, 0x80000000#32, 0x80000000#32, 0x80000000#32] ++
  [0x80000000#32, 0x80000000#32, 0x80000000#32, 0x80000000#32] ++
  [0x00000000#32, 0x00000000#32, 0x00000000#32, 0x00000001#32] ++
  [0x00000000#32, 0x00000002#32, 0x00000004#32, 0x00000008#32] ++
  [0x00000000#32, 0x00000010#32, 0x00000020#32, 0x00000040#32] ++
  [0x00000080#32, 0x00000100#32, 0x00000200#32, 0x00000400#32] ++
  [0x00000000#32, 0x00000800#32, 0x00001000#32, 0x00002000#32] ++
  [0x00004000#32, 0x00008000#32, 0x00010000#32, 0x00020000#32] ++
  [0x80000000#32, 0x80000000#32, 0x80000000#32, 0x80000000#32] ++
  [0x80000000#32, 0x80000000#32, 0x80000000#32, 0x80000000#32]

/-- `T_REV` (43_reverse.md R126). -/
def romRev : List (BitVec 8) :=
  [0x00#8, 0x80#8, 0x40#8, 0xC0#8, 0x20#8, 0xA0#8, 0x60#8, 0xE0#8, 0x10#8, 0x90#8, 0x50#8, 0xD0#8, 0x30#8, 0xB0#8, 0x70#8, 0xF0#8] ++
  [0x08#8, 0x88#8, 0x48#8, 0xC8#8, 0x28#8, 0xA8#8, 0x68#8, 0xE8#8, 0x18#8, 0x98#8, 0x58#8, 0xD8#8, 0x38#8, 0xB8#8, 0x78#8, 0xF8#8] ++
  [0x04#8, 0x84#8, 0x44#8, 0xC4#8, 0x24#8, 0xA4#8, 0x64#8, 0xE4#8, 0x14#8, 0x94#8, 0x54#8, 0xD4#8, 0x34#8, 0xB4#8, 0x74#8, 0xF4#8] ++
  [0x0C#8, 0x8C#8, 0x4C#8, 0xCC#8, 0x2C#8, 0xAC#8, 0x6C#8, 0xEC#8, 0x1C#8, 0x9C#8, 0x5C#8, 0xDC#8, 0x3C#8, 0xBC#8, 0x7C#8, 0xFC#8] ++
  [0x02#8, 0x82#8, 0x42#8, 0xC2#8, 0x22#8, 0xA2#8, 0x62#8, 0xE2#8, 0x12#8, 0x92#8, 0x52#8, 0xD2#8, 0x32#8, 0xB2#8, 0x72#8, 0xF2#8] ++
  [0x0A#8, 0x8A#8, 0x4A#8, 0xCA#8, 0x2A#8, 0xAA#8, 0x6A#8, 0xEA#8, 0x1A#8, 0x9A#8, 0x5A#8, 0xDA#8, 0x3A#8, 0xBA#8, 0x7A#8, 0xFA#8] ++
  [0x06#8, 0x86#8, 0x46#8, 0xC6#8, 0x26#8, 0xA6#8, 0x66#8, 0xE6#8, 0x16#8, 0x96#8, 0x56#8, 0xD6#8, 0x36#8, 0xB6#8, 0x76#8, 0xF6#8] ++
  [0x0E#8, 0x8E#8, 0x4E#8, 0xCE#8, 0x2E#8, 0xAE#8, 0x6E#8, 0xEE#8, 0x1E#8, 0x9E#8, 0x5E#8, 0xDE#8, 0x3E#8, 0xBE#8, 0x7E#8, 0xFE#8] ++
  [0x01#8, 0x81#8, 0x41#8, 0xC1#8, 0x21#8, 0xA1#8, 0x61#8, 0xE1#8, 0x11#8, 0x91#8, 0x51#8, 0xD1#8, 0x31#8, 0xB1#8, 0x71#8, 0xF1#8] ++
  [0x09#8, 0x89#8, 0x49#8, 0xC9#8, 0x29#8, 0xA9#8, 0x69#8, 0xE9#8, 0x19#8, 0x99#8, 0x59#8, 0xD9#8, 0x39#8, 0xB9#8, 0x79#8, 0xF9#8] ++
  [0x05#8, 0x85#8, 0x45#8, 0xC5#8, 0x25#8, 0xA5#8, 0x65#8, 0xE5#8, 0x15#8, 0x95#8, 0x55#8, 0xD5#8, 0x35#8, 0xB5#8, 0x75#8, 0xF5#8] ++
  [0x0D#8, 0x8D#8, 0x4D#8, 0xCD#8, 0x2D#8, 0xAD#8, 0x6D#8, 0xED#8, 0x1D#8, 0x9D#8, 0x5D#8, 0xDD#8, 0x3D#8, 0xBD#8, 0x7D#8, 0xFD#8] ++
  [0x03#8, 0x83#8, 0x43#8, 0xC3#8, 0x23#8, 0xA3#8, 0x63#8, 0xE3#8, 0x13#8, 0x93#8, 0x53#8, 0xD3#8, 0x33#8, 0xB3#8, 0x73#8, 0xF3#8] ++
  [0x0B#8, 0x8B#8, 0x4B#8, 0xCB#8, 0x2B#8, 0xAB#8, 0x6B#8, 0xEB#8, 0x1B#8, 0x9B#8, 0x5B#8, 0xDB#8, 0x3B#8, 0xBB#8, 0x7B#8, 0xFB#8] ++
  [0x07#8, 0x87#8, 0x47#8, 0xC7#8, 0x27#8, 0xA7#8, 0x67#8, 0xE7#8, 0x17#8, 0x97#8, 0x57#8, 0xD7#8, 0x37#8, 0xB7#8, 0x77#8, 0xF7#8] ++
  [0x0F#8, 0x8F#8, 0x4F#8, 0xCF#8, 0x2F#8, 0xAF#8, 0x6F#8, 0xEF#8, 0x1F#8, 0x9F#8, 0x5F#8, 0xDF#8, 0x3F#8, 0xBF#8, 0x7F#8, 0xFF#8]

/-! ## Reading them

A read of a table has no side effect (00_scope.md section 5).  Every index is within its table, so
the default of `getD` is never read. -/

/-- `T_HAM84[b]` (40_hamming84.md R90). -/
def tHam84 (b : Byte) : Byte := romHam84.getD b.toNat sentinelByte

/-- `T_D1D4[i]` (41_hamming2418.md R102). -/
def tD1D4 (i : BitVec 6) : BitVec 4 := romD1D4.getD i.toNat 0#4

/-- `T_PAR0[b]` (41_hamming2418.md R104). -/
def tPar0 (b : Byte) : BitVec 6 := romPar0.getD b.toNat 0#6

/-- `T_PAR1[b]` (41_hamming2418.md R104). -/
def tPar1 (b : Byte) : BitVec 6 := romPar1.getD b.toNat 0#6

/-- `T_PAR2[b]` (41_hamming2418.md R104). -/
def tPar2 (b : Byte) : BitVec 6 := romPar2.getD b.toNat 0#6

/-- `T_ERR[syn]` (41_hamming2418.md R105). -/
def tErr (syn : BitVec 6) : BitVec 32 := romErr.getD syn.toNat uncorrectableMask

/-- `T_REV[b]` (43_reverse.md R126). -/
def tRev (b : Byte) : Byte := romRev.getD b.toNat 0#8

end Sys2Proof.Machine
end

