-- ==== Sys2Proof/Machine/Ops.lean ====
section
/-!
DEFINITION. The named operations over the operand buffer, bits, and the block's interface.

There is no operation that takes an exception and none that returns from one: the block has neither
(60_exceptions.md R160, R165, R166).  There is no store (20_memory.md R46).
-/

namespace Sys2Proof.Machine

/-! ## The operand buffer -/

/-- `MemRead(addr, n)`: `n` bytes from byte offset `addr` of the operand buffer (00_scope.md section 5,
20_memory.md R40); `none` where an offset does not exist (R47). -/
def memRead (buf : List Byte) (addr n : Nat) : Option (List Byte) :=
  if addr + n ≤ buf.length then some ((buf.drop addr).take n) else none

/-- `buf[i]`, the single byte `MemRead(i, 1)[0]`. -/
def memByte (buf : List Byte) (i : Nat) : Option Byte :=
  (memRead buf i 1).bind List.head?

/-- `buf[i..]`, the bytes from offset `i` to the end (00_scope.md section 5). -/
def memRest (buf : List Byte) (i : Nat) : List Byte := buf.drop i

/-! ## Bits -/

/-- `popcount(v)`: the number of set bits (00_scope.md section 5). -/
def popcount {w : Nat} (v : BitVec w) : Nat := (List.range w).countP fun i => v.getLsbD i

/-- `parity(v) = popcount(v) & 1`: 1 when the number of set bits is odd. -/
def parity {w : Nat} (v : BitVec w) : Nat := popcount v % 2

/-- The number whose bit `i` is the bit at place `i` of a list of bits. -/
def ofBits (w : Nat) : List Bool → BitVec w
  | [] => 0#w
  | b :: bs => (if b then 1#w else 0#w) ||| (ofBits w bs <<< 1)

/-! ## The interface -/

/-- The caller issues a request: it joins the requests in progress (00_scope.md R6, R7). -/
def State.issue (s : State) (r : Request) : State := { s with requests := s.requests ++ [r] }

/-- What happens next: the first event of the schedule, or the oldest request when it names none. -/
def State.nextEvent (s : State) : Event :=
  match s.schedule with
  | e :: _ => e
  | [] => .serve 0

/-- The place of the request an event `serve place` serves: that place when it is taken, else the
oldest request's.  DESIGN CHOICE, safe, log entry 3. -/
def State.servedPlace (s : State) (place : Nat) : Nat :=
  if place < s.requests.length then place else 0

/-- The request served next and the state in which it is executed: without that request and without
the event.  `none` when no request is in progress. -/
def State.takeRequest (s : State) (place : Nat) : Option (Request × State) :=
  match s.requests[s.servedPlace place]? with
  | some r =>
    some (r, { s with requests := s.requests.eraseIdx (s.servedPlace place)
                      schedule := s.schedule.tail })
  | none => none

/-- Nothing is in progress: the block stays idle and the event passes.  DESIGN CHOICE, safe, log
entry 2. -/
def State.idle (s : State) : State := { s with schedule := s.schedule.tail }

/-- A reset: every request in progress is abandoned without a response; what was delivered before is
the caller's and stays (70_reset_and_hazards.md R180, 10_state.md R29).  DESIGN CHOICE, unsafe, log
entry 5. -/
def State.abandonRequests (s : State) : State :=
  { s with requests := [], schedule := s.schedule.tail }

/-- The response of a request is delivered; it is never changed later (10_state.md R29). -/
def State.deliver (s : State) (i : Instr) (r : Response) : State :=
  { s with delivered := s.delivered ++ [⟨i, r⟩] }

/-- The refusal of a request the decoder gives no meaning to. -/
def refusalOf : DecodeError → Refusal
  | .reservedSelect op => .reservedSelect op
  | .operandLength op len => .operandLength op len
  | .lineTooShort len => .lineTooShort len

end Sys2Proof.Machine
end

