-- ==== Sys2Proof/Machine/Operands.lean ====
section
/-!
DEFINITION. Operand forms: the fields of a triplet, of the decoded address nibbles and of a line
buffer (30_encoding.md R65 to R72, 20_memory.md R41, R44; 70_reset_and_hazards.md R189).
-/

namespace Sys2Proof.Machine

/-! ## The Hamming 24/18 triplet -/

/-- Operand assembly of HAM2418 (30_encoding.md R68, 41_hamming2418.md R101):
`T_D1D4[t[0] >> 2] | ((t[1] & 0x7F) << 4) | ((t[2] & 0x7F) << 11)`, 18 bits. -/
def raw18 (t0 t1 t2 : Byte) : BitVec 18 :=
  (tD1D4 ((t0 >>> 2).setWidth 6)).setWidth 18
    ||| ((t1 &&& 0x7F#8).setWidth 18 <<< 4)
    ||| ((t2 &&& 0x7F#8).setWidth 18 <<< 11)

/-- The result triplet of a corrected value: `[v[5:0], v[11:6], v[17:12]]`, each zero-extended to a
byte (30_encoding.md R69). -/
def splitTriplet (v : BitVec 32) : Response :=
  .triplet ((v.extractLsb' 0 6).setWidth 8) ((v.extractLsb' 6 6).setWidth 8)
    ((v.extractLsb' 12 6).setWidth 8)

/-- The failure sentinel of HAM2418, `[0xFF, 0xFF, 0xFF]` (30_encoding.md R75). -/
def sentinelTriplet : Response := .triplet sentinelByte sentinelByte sentinelByte

/-! ## The odd-parity byte -/

/-- The 7 data bits of an odd-parity byte, `b & 0x7F` (30_encoding.md R70). -/
def parityData (b : Byte) : Byte := b &&& 0x7F#8

/-! ## The line buffer -/

/-- Offset of the framing code (20_memory.md R41). -/
def offFraming : Nat := 1

/-- Offset of the first address byte (20_memory.md R41). -/
def offAddr1 : Nat := 2

/-- Offset of the second address byte (20_memory.md R41). -/
def offAddr2 : Nat := 3

/-- Offset of the payload (20_memory.md R41). -/
def offData : Nat := 4

/-- The fields of a line buffer (20_memory.md R41); `none` when an offset below 4 does not exist,
that is for an operand of fewer than 4 bytes (R47). -/
def lineFields (buf : List Byte) : Option LineFields :=
  match memByte buf offFraming, memByte buf offAddr1, memByte buf offAddr2 with
  | some fc, some a1, some a2 => some ⟨fc, a1, a2, memRest buf offData⟩
  | _, _, _ => none

/-- `mag_raw`, `address1 & 0x07` on the full 8-bit result of HAM84, sentinel included (44_framer.md
R132): 3 bits wide (10_state.md R26). -/
def magazineField (address1 : Byte) : BitVec 3 := (address1 &&& 0x07#8).setWidth 3

/-- `(address1 >> 3) | (address2 << 1)` on the full 8-bit values, without truncation
(44_framer.md R133, 10_state.md R26). -/
def packetNumber (address1 address2 : Byte) : Nat :=
  (address1.toNat >>> 3) ||| (address2.toNat <<< 1)

end Sys2Proof.Machine
end

