-- ==== Sys2Proof/Machine/Flags.lean ====
section
/-!
DEFINITION. The conditions the block tests: the parity test of ODDPAR, the success test of HAM2418,
and the three conditions that set FRAME's `decodingError` (10_state.md R23, 44_framer.md R139).
-/

namespace Sys2Proof.Machine

/-- Odd parity holds: an odd number of the eight bits is set (42_oddparity.md R120). -/
def oddParityHolds (b : Byte) : Bool := parity b == 1

/-- The error flag bit of `res32` is clear: `res32 < 0x80000000`, unsigned (41_hamming2418.md R106). -/
def correctionSucceeded (res32 : BitVec 32) : Bool := res32.ult uncorrectableMask

/-- The framing code is not the expected one (44_framer.md R131). -/
def framingWrong (framingCode : Byte) : Bool := framingCode != framingCodeExpected

/-- `mag_raw > 7`: never true, and kept as the algorithm states it (44_framer.md R132, R143). -/
def magazineOutOfRange (magRaw : BitVec 3) : Bool := decide (7 < magRaw.toNat)

/-- `num_raw > 31`, strictly (44_framer.md R135). -/
def numberOutOfRange (numRaw : Nat) : Bool := decide (31 < numRaw)

/-- The sticky flag: a condition sets it and none clears it (10_state.md R23). -/
def raiseError (flag condition : Bool) : Bool := flag || condition

end Sys2Proof.Machine
end

