-- ==== Sys2Proof/Machine/Codec.lean ====
section
/-!
DEFINITION. The bit-level codec: the meanings of HAM84, HAM2418, ODDPAR and REV8.  Each writes no
state and no flag and raises nothing, for any operand; it only delivers its response.
-/

namespace Sys2Proof.Machine

/-! ## HAM84 -/

/-- HAM84: `result <- T_HAM84[b]` (40_hamming84.md R90). -/
def execHam84 (b : Byte) (s : State) : Host.Outcome State Fault Refusal :=
  .next (s.deliver (.ham84 b) (.byte (tHam84 b)))

/-! ## HAM2418 -/

/-- Step 2, the syndrome: `T_PAR0[t[0]] ^ T_PAR1[t[1]] ^ T_PAR2[t[2]]` (41_hamming2418.md R103). -/
def syndrome (t0 t1 t2 : Byte) : BitVec 6 := tPar0 t0 ^^^ tPar1 t1 ^^^ tPar2 t2

/-- Step 4, the corrected value: `zext_32(raw18) ^ mask` (41_hamming2418.md R106). -/
def corrected (t0 t1 t2 : Byte) : BitVec 32 :=
  (raw18 t0 t1 t2).setWidth 32 ^^^ tErr (syndrome t0 t1 t2)

/-- The four steps of HAM2418 (41_hamming2418.md R100). -/
def decodeTriplet (t0 t1 t2 : Byte) : Response :=
  if correctionSucceeded (corrected t0 t1 t2) then splitTriplet (corrected t0 t1 t2)
  else sentinelTriplet

/-- HAM2418 (41_hamming2418.md R100). -/
def execHam2418 (t0 t1 t2 : Byte) (s : State) : Host.Outcome State Fault Refusal :=
  .next (s.deliver (.ham2418 t0 t1 t2) (decodeTriplet t0 t1 t2))

/-! ## ODDPAR -/

/-- The low 7 bits when odd parity holds, else the space `0x20` (42_oddparity.md R120). -/
def decodeParity (b : Byte) : Byte := if oddParityHolds b then parityData b else paritySubstitute

/-- ODDPAR (42_oddparity.md R120). -/
def execOddpar (b : Byte) (s : State) : Host.Outcome State Fault Refusal :=
  .next (s.deliver (.oddpar b) (.byte (decodeParity b)))

/-! ## REV8 -/

/-- REV8: `result <- T_REV[b]` (43_reverse.md R125). -/
def execRev8 (b : Byte) (s : State) : Host.Outcome State Fault Refusal :=
  .next (s.deliver (.rev8 b) (.byte (tRev b)))

end Sys2Proof.Machine
end

