-- ==== Sys2Proof/Machine/Framer.lean ====
section
/-!
DEFINITION. The packet framer: the seven steps of FRAME in their order (44_framer.md R130 to R138) and
its meaning.  No byte is reversed (R141), and no error stops a later step (60_exceptions.md R162).
The magazine and range checks follow 90_conflicts.md C1, C2 and C6 (UNVERIFIED, unsafe, log entry 9).
-/

namespace Sys2Proof.Machine

/-- The start of a FRAME request: no error, type `Unspecified` (44_framer.md R130, 10_state.md R23).
The other transients are assigned before they are read (10_state.md R30). -/
def FrameRun.start : FrameRun :=
  { framingCode := 0#8, address1 := 0#8, magRaw := 0#3, address2 := 0#8, numRaw := 0
    decodingError := false, type := .unspecified, magazine := none, number := none, data := [] }

/-- Step 1, framing code: compared as read, and kept whether or not it matched (44_framer.md R131). -/
def frameStep1 (line : LineFields) (f : FrameRun) : FrameRun :=
  { f with framingCode := line.framing
           decodingError := raiseError f.decodingError (framingWrong line.framing) }

/-- The magazine of a magazine field: absent above 7, 8 for 0, else the field (44_framer.md R132). -/
def magazineOf (magRaw : BitVec 3) : Option Nat :=
  if magazineOutOfRange magRaw then none
  else if magRaw = 0#3 then some 8
  else some magRaw.toNat

/-- Step 2, first address byte and magazine (44_framer.md R132). -/
def frameStep2 (line : LineFields) (f : FrameRun) : FrameRun :=
  { f with address1 := tHam84 line.addr1
           magRaw := magazineField (tHam84 line.addr1)
           magazine := magazineOf (magazineField (tHam84 line.addr1))
           decodingError :=
             raiseError f.decodingError (magazineOutOfRange (magazineField (tHam84 line.addr1))) }

/-- Step 3, second address byte and packet number, without truncation (44_framer.md R133). -/
def frameStep3 (line : LineFields) (f : FrameRun) : FrameRun :=
  { f with address2 := tHam84 line.addr2
           numRaw := packetNumber f.address1 (tHam84 line.addr2) }

/-- The classification table (44_framer.md R134), on `num_raw` and the remapped magazine. -/
def classify (numRaw : Nat) (magazine : Option Nat) : PacketType :=
  if numRaw = 0 then .header
  else if 1 ≤ numRaw ∧ numRaw ≤ 23 then .pageBody
  else if numRaw = 24 then .fastext
  else if numRaw = 25 then .topCommentary
  else if numRaw = 26 then .pageReplacements
  else if numRaw = 27 then .linkedPages
  else if numRaw = 28 then .pageEnhancements
  else if numRaw = 29 then .magazineEnhancements
  else if numRaw = 30 ∧ magazine = some 8 then .broadcastServiceData
  else .unspecified

/-- Step 4, classification, before the range check of step 5 (44_framer.md R134, R138). -/
def frameStep4 (f : FrameRun) : FrameRun := { f with type := classify f.numRaw f.magazine }

/-- The packet number after the range check: absent above 31 (44_framer.md R135). -/
def numberOf (numRaw : Nat) : Option Nat := if numberOutOfRange numRaw then none else some numRaw

/-- Step 5, range check (44_framer.md R135). -/
def frameStep5 (f : FrameRun) : FrameRun :=
  { f with number := numberOf f.numRaw
           decodingError := raiseError f.decodingError (numberOutOfRange f.numRaw) }

/-- Step 6, payload: the bytes from offset 4 on, unchanged (44_framer.md R136, 20_memory.md R54). -/
def frameStep6 (line : LineFields) (f : FrameRun) : FrameRun := { f with data := line.payload }

/-- Step 7, result: the Packet with all six fields (44_framer.md R137). -/
def frameStep7 (f : FrameRun) : Packet :=
  { framingCode := f.framingCode, magazine := f.magazine, number := f.number, type := f.type
    decodingError := f.decodingError, data := f.data }

/-- The seven steps in their order, with no early exit (44_framer.md R137, R138). -/
def framePacket (line : LineFields) : Packet :=
  frameStep7 (frameStep6 line (frameStep5 (frameStep4 (frameStep3 line (frameStep2 line
    (frameStep1 line FrameRun.start))))))

/-- FRAME (44_framer.md R130): a Packet for every operand of 4 or more bytes; a shorter one is outside
the contract and is refused (R142). -/
def execFrame (buf : List Byte) (s : State) : Host.Outcome State Fault Refusal :=
  match lineFields buf with
  | some line => .next (s.deliver (.frame buf) (.packet (framePacket line)))
  | none => .refused (.lineTooShort buf.length)

end Sys2Proof.Machine
end

