-- ==== Sys2Proof/Machine/Dispatch.lean ====
section
/-!
DEFINITION. One arm for each instruction (30_encoding.md R61).
-/

namespace Sys2Proof.Machine

def exec (i : Instr) (s : State) : Host.Outcome State Fault Refusal :=
  match i with
  | .ham84 b => Sys2Proof.Machine.execHam84 b s
  | .ham2418 t0 t1 t2 => Sys2Proof.Machine.execHam2418 t0 t1 t2 s
  | .oddpar b => Sys2Proof.Machine.execOddpar b s
  | .rev8 b => Sys2Proof.Machine.execRev8 b s
  | .frame buf => Sys2Proof.Machine.execFrame buf s

end Sys2Proof.Machine
end

