-- ==== Sys2Proof/Machine/Step.lean ====
section
/-!
DEFINITION. One step of an instance: "serve one request" (00_scope.md R7), or one event of its
interface.
-/

namespace Sys2Proof.Machine

/-- One step.  A request that decodes is executed and its response delivered; one that does not is
refused (60_exceptions.md R160); a reset abandons the requests in progress (70_reset_and_hazards.md
R180); with nothing in progress the block is idle. -/
def step (s : State) : Host.Outcome State Fault Refusal :=
  match s.nextEvent with
  | .reset => .next s.abandonRequests
  | .serve place =>
    match s.takeRequest place with
    | none => .next s.idle
    | some (r, s') =>
      match decode r with
      | .ok i => exec i s'
      | .error e => .refused (refusalOf e)

/-- `s` with the request of a table word in progress as the oldest and served by the very next step.
It stands for the caller's issuing that request (log entry 7). -/
def State.withFetchWord (s : State) (nbits w : Nat) : State :=
  { s with requests := tableRequest nbits w :: s.requests
           schedule := .serve 0 :: s.schedule }

end Sys2Proof.Machine
end

