-- ==== Sys2Proof/Machine/Asm.lean ====
section
/-!
DEFINITION. The spec's way to write requests, responses and straight-line programs (30_encoding.md
R77; 70_reset_and_hazards.md R187).  A text is a list of characters.  The programs and the names in
them are the caller's: nothing here is part of a step.  Details the spec shows only by example are
DESIGN CHOICE, safe, log entry 11.
-/

namespace Sys2Proof.Machine

/-- A text. -/
abbrev Text := List Char

/-! ## Writing -/

/-- One hexadecimal digit, capitals. -/
def hexDigit (n : Nat) : Char := if n < 10 then Char.ofNat (48 + n) else Char.ofNat (55 + n)

/-- A byte as two hexadecimal digits without `0x`. -/
def byteText (b : Byte) : Text := [hexDigit (b.toNat / 16), hexDigit (b.toNat % 16)]

/-- Bytes separated by spaces. -/
def bytesText (bs : List Byte) : Text := [' '].intercalate (bs.map byteText)

/-- The mnemonic of an operation (00_scope.md R2). -/
def Op.mnemonic : Op → Text
  | .ham84 => "HAM84".toList
  | .ham2418 => "HAM2418".toList
  | .oddpar => "ODDPAR".toList
  | .rev8 => "REV8".toList
  | .frame => "FRAME".toList

/-- A request as `MNEMONIC operand-bytes`. -/
def requestText (i : Instr) : Text := Op.mnemonic i.op ++ ' ' :: bytesText i.operand

/-- The name of a packet type (10_state.md R28). -/
def PacketType.text : PacketType → Text
  | .header => "Header".toList
  | .pageBody => "PageBody".toList
  | .fastext => "Fastext".toList
  | .topCommentary => "TOPCommentary".toList
  | .pageReplacements => "PageReplacements".toList
  | .linkedPages => "LinkedPages".toList
  | .pageEnhancements => "PageEnhancements".toList
  | .magazineEnhancements => "MagazineEnhancements".toList
  | .broadcastServiceData => "BroadcastServiceData".toList
  | .unspecified => "Unspecified".toList

/-- An optional number: `some n` in decimal, or `none`. -/
def optionText : Option Nat → Text
  | none => "none".toList
  | some n => "some ".toList ++ Nat.toDigits 10 n

/-- A Packet in braces (characters 123 and 125), its fields separated by a comma and a space. -/
def packetText (p : Packet) : Text :=
  Char.ofNat 123 :: "fc=".toList ++ byteText p.framingCode ++ ", mag=".toList
    ++ optionText p.magazine ++ ", num=".toList ++ optionText p.number ++ ", type=".toList
    ++ p.type.text ++ ", err=".toList
    ++ (if p.decodingError then "true".toList else "false".toList)
    ++ ", data=[".toList ++ bytesText p.data ++ [']', Char.ofNat 125]

/-- A response. -/
def responseText : Response → Text
  | .byte r => byteText r
  | .triplet r0 r1 r2 => bytesText [r0, r1, r2]
  | .packet p => packetText p

/-- A transaction: the request, `=>`, the response. -/
def deliveryText (d : Delivery) : Text :=
  requestText d.instr ++ " => ".toList ++ responseText d.response

/-! ## Lines of a program -/

/-- Where an operand byte of a line comes from. -/
inductive Source where
  /-- A byte in hexadecimal. -/
  | literal (b : Byte)
  /-- `name.data[i]`: byte `i` of a named Packet's data. -/
  | dataByte (name : Text) (i : Nat)
  /-- `name[i]`: byte `i` of a named triplet. -/
  | tripletByte (name : Text) (i : Nat)
deriving DecidableEq, Repr

/-- A line: an optional name for its response, an operation and the operand bytes. -/
structure ProgramLine where
  name : Option Text
  op : Op
  operand : List Source
deriving DecidableEq, Repr

/-- The named responses of the lines so far, latest first. -/
abbrev Names := List (Text × Response)

/-- The operand byte a source stands for, among the named responses. -/
def Source.value (names : Names) : Source → Option Byte
  | .literal b => some b
  | .dataByte name i =>
    match names.lookup name with
    | some (.packet p) => p.data[i]?
    | _ => none
  | .tripletByte name i =>
    match names.lookup name with
    | some (.triplet r0 r1 r2) => [r0, r1, r2][i]?
    | _ => none

/-- The request `(op, operand)` of a line (30_encoding.md R60). -/
def ProgramLine.request (names : Names) (l : ProgramLine) : Option Request :=
  match l.operand.mapM (Source.value names) with
  | some bytes => some ⟨l.op.select, bytes⟩
  | none => none

/-! ## Reading -/

/-- A text cut at its spaces; empty pieces are dropped. -/
def words : Text → List Text
  | [] => []
  | c :: cs =>
    if c = ' ' then words cs
    else
      match cs with
      | [] => [[c]]
      | ' ' :: _ => [c] :: words cs
      | _ :: _ =>
        match words cs with
        | w :: ws => (c :: w) :: ws
        | [] => [[c]]

/-- The value of a hexadecimal digit. -/
def hexValue (c : Char) : Option Nat :=
  if 48 ≤ c.toNat ∧ c.toNat ≤ 57 then some (c.toNat - 48)
  else if 65 ≤ c.toNat ∧ c.toNat ≤ 70 then some (c.toNat - 55)
  else none

/-- The number that decimal digits stand for, after the number read so far. -/
def decimalValue (soFar : Nat) : Text → Option Nat
  | [] => some soFar
  | c :: cs =>
    if 48 ≤ c.toNat ∧ c.toNat ≤ 57 then decimalValue (10 * soFar + (c.toNat - 48)) cs else none

/-- The text before the first `[` and the index between it and a closing `]`. -/
def indexed (w : Text) : Option (Text × Nat) :=
  match w.span (· ≠ '[') with
  | (name, _ :: rest) =>
    if rest.getLast? = some ']' ∧ 1 < rest.length then
      (decimalValue 0 rest.dropLast).map fun i => (name, i)
    else none
  | (_, []) => none

/-- The source an operand word stands for: two hexadecimal digits, `name.data[i]` or `name[i]`. -/
def readSource (w : Text) : Option Source :=
  match w with
  | [h, l] =>
    match hexValue h, hexValue l with
    | some a, some b => some (.literal (BitVec.ofNat 8 (16 * a + b)))
    | _, _ => none
  | _ =>
    match indexed w with
    | some (name, i) =>
      if ".data".toList.isSuffixOf name then
        some (.dataByte (name.take (name.length - 5)) i)
      else some (.tripletByte name i)
    | none => none

/-- The operation of a mnemonic. -/
def readOp (w : Text) : Option Op :=
  [Op.ham84, .ham2418, .oddpar, .rev8, .frame].find? fun o => Op.mnemonic o == w

/-- A line of a program: `MNEMONIC operand` or `name = MNEMONIC operand` (30_encoding.md R77). -/
def readLine (t : Text) : Option ProgramLine :=
  match words t with
  | name :: ['='] :: m :: ops =>
    match readOp m, ops.mapM readSource with
    | some o, some srcs => some ⟨some name, o, srcs⟩
    | _, _ => none
  | m :: ops =>
    match readOp m, ops.mapM readSource with
    | some o, some srcs => some ⟨none, o, srcs⟩
    | _, _ => none
  | [] => none

/-! ## The caller -/

/-- The caller issues one line to an idle block, and names the response of the one step that serves
it; `none` where a source names nothing, the block is not idle (a request is in progress or an event
scheduled), or the request is refused. -/
def performLine (names : Names) (s : State) (l : ProgramLine) : Option (Names × State) :=
  match l.request names, s.requests, s.schedule with
  | some r, [], [] =>
    match step (s.issue r) with
    | .next t =>
      match l.name, t.delivered.getLast? with
      | some name, some d => some ((name, d.response) :: names, t)
      | _, _ => some (names, t)
    | _ => none
  | _, _, _ => none

/-- The caller issues the lines of a straight-line program one after another
(70_reset_and_hazards.md R187). -/
def performLines (names : Names) (s : State) : List ProgramLine → Option (Names × State)
  | [] => some (names, s)
  | l :: ls =>
    match performLine names s l with
    | some (names', s') => performLines names' s' ls
    | none => none

end Sys2Proof.Machine
end

