-- ==== Sys2Proof/Machine/Codes.lean ====
section
/-!
DEFINITION. The codes behind the tables: the procedures and formulas the spec gives beside each table,
the closed forms of the five operations, and the reference encoders.  The machine reads the tables;
nothing here is called by a step.  The encoders are informative and no operation of the block
(40_hamming84.md R95, 41_hamming2418.md R111).
-/

namespace Sys2Proof.Machine

/-! ## Hamming 8/4 -/

/-- Tests A, B and C of a Hamming 8/4 byte, true when the test passes (40_hamming84.md R91). -/
def ham84Tests (b : Byte) : Bool × Bool × Bool :=
  ( (b.getLsbD 7 ^^ b.getLsbD 5 ^^ b.getLsbD 1 ^^ b.getLsbD 0),
    (b.getLsbD 7 ^^ b.getLsbD 3 ^^ b.getLsbD 2 ^^ b.getLsbD 1),
    (b.getLsbD 5 ^^ b.getLsbD 4 ^^ b.getLsbD 3 ^^ b.getLsbD 1) )

/-- The bit that the tests name as wrong, `none` when A, B and C pass (40_hamming84.md R91). -/
def ham84WrongBit : Bool × Bool × Bool → Option Nat
  | (true, true, true) => none
  | (false, true, true) => some 0
  | (false, false, false) => some 1
  | (true, false, true) => some 2
  | (true, false, false) => some 3
  | (true, true, false) => some 4
  | (false, true, false) => some 5
  | (false, false, true) => some 7

/-- The data nibble of a byte: `c[1] | (c[3] << 1) | (c[5] << 2) | (c[7] << 3)` (30_encoding.md R65,
R66). -/
def ham84Data (c : Byte) : Byte :=
  ofBits 8 [c.getLsbD 1, c.getLsbD 3, c.getLsbD 5, c.getLsbD 7]

/-- The decoding procedure that defines `T_HAM84` (40_hamming84.md R91). -/
def ham84ByTests (b : Byte) : Byte :=
  match ham84WrongBit (ham84Tests b) with
  | none => ham84Data b
  | some k => if parity b = 1 then sentinelByte else ham84Data (b ^^^ (1#8 <<< k))

/-- The reference encoder `ENC84(n)` (40_hamming84.md R95). -/
def enc84 (n : BitVec 4) : Byte :=
  let d1 := n.getLsbD 0
  let d2 := n.getLsbD 1
  let d3 := n.getLsbD 2
  let d4 := n.getLsbD 3
  let p1 := true ^^ d1 ^^ d3 ^^ d4
  let p2 := true ^^ d1 ^^ d2 ^^ d4
  let p3 := true ^^ d1 ^^ d2 ^^ d3
  let p4 := true ^^ p1 ^^ d1 ^^ p2 ^^ d2 ^^ p3 ^^ d3 ^^ d4
  ofBits 8 [p1, d1, p2, d2, p3, d3, p4, d4]

/-! ## Hamming 24/18 -/

/-- `T_D1D4[i]` by its formula, `(i & 1) | ((i >> 1) & 0xE)` (41_hamming2418.md R102). -/
def d1d4ByFormula (i : BitVec 6) : BitVec 4 :=
  ((i &&& 1#6) ||| ((i >>> 1) &&& 0xE#6)).setWidth 4

/-- The weight of a codeword position: `0x20 | p` for 1 to 23, `0x20` for 24 (41_hamming2418.md
R104). -/
def positionWeight (p : Nat) : BitVec 6 := if p = 24 then 0x20#6 else 0x20#6 ||| BitVec.ofNat 6 p

/-- The exclusive-or of `w(i + base)` over the set bits `i` of a byte (41_hamming2418.md R104). -/
def xorOfWeights (base : Nat) (b : Byte) : BitVec 6 :=
  (List.range 8).foldl
    (fun acc i => if b.getLsbD i then acc ^^^ positionWeight (i + base) else acc) 0#6

/-- `T_PAR0[b]` by its formula (41_hamming2418.md R104). -/
def par0ByFormula (b : Byte) : BitVec 6 := xorOfWeights 1 b

/-- `T_PAR1[b]` by its formula (41_hamming2418.md R104). -/
def par1ByFormula (b : Byte) : BitVec 6 := xorOfWeights 9 b

/-- `T_PAR2[b]` by its formula (41_hamming2418.md R104). -/
def par2ByFormula (b : Byte) : BitVec 6 := 0x3F#6 ^^^ xorOfWeights 17 b

/-- The correcting mask of a single wrong bit at position `p` of 0 to 23, where 0 stands for position
24: a bit of `raw18`, none for a protection bit (41_hamming2418.md R105, 90_conflicts.md C4). -/
def positionMask (p : Nat) : BitVec 32 :=
  if p ∈ [0, 1, 2, 4, 8, 16] then 0#32
  else if p = 3 then 1#32
  else if p ≤ 7 then 1#32 <<< (p - 4)
  else if p ≤ 15 then 1#32 <<< (p - 5)
  else 1#32 <<< (p - 6)

/-- `T_ERR[syn]` by its formula (41_hamming2418.md R105). -/
def errByFormula (syn : BitVec 6) : BitVec 32 :=
  if syn.toNat = 0 then 0#32
  else if syn.toNat < 0x20 then uncorrectableMask
  else if 0x38 ≤ syn.toNat then uncorrectableMask
  else positionMask (syn.toNat - 0x20)

/-- The 24-bit codeword of a triplet: position `p` is bit `p - 1` (41_hamming2418.md R110). -/
def codewordOf (t0 t1 t2 : Byte) : BitVec 24 := t2 ++ t1 ++ t0

/-- The syndrome of a codeword, without tables (41_hamming2418.md R110). -/
def syndromeOf (w : BitVec 24) : BitVec 6 :=
  (List.range 24).foldl
    (fun acc j => if w.getLsbD j then acc ^^^ positionWeight (j + 1) else acc) 0x3F#6

/-- The data bits of a codeword, `w[2] | (w[6:4] << 1) | (w[14:8] << 4) | (w[22:16] << 11)`
(41_hamming2418.md R110). -/
def dataOf (w : BitVec 24) : BitVec 32 :=
  (w.extractLsb' 2 1).setWidth 32 ||| ((w.extractLsb' 4 3).setWidth 32 <<< 1)
    ||| ((w.extractLsb' 8 7).setWidth 32 <<< 4) ||| ((w.extractLsb' 16 7).setWidth 32 <<< 11)

/-- HAM2418 in closed form, without tables (41_hamming2418.md R110). -/
def ham2418ByFormula (w : BitVec 24) : Response :=
  let s := (syndromeOf w).toNat
  if s = 0 then splitTriplet (dataOf w)
  else if s < 0x20 ∨ 0x38 ≤ s then sentinelTriplet
  else splitTriplet (dataOf w ^^^ positionMask (s % 32))

/-- The codeword positions of data bits `D1` to `D18` (30_encoding.md R67, 41_hamming2418.md R111). -/
def dataPositions : List Nat := [3, 5, 6, 7, 9, 10, 11, 12, 13, 14, 15, 17, 18, 19, 20, 21, 22, 23]

/-- Each protection bit's position and the positions of the test it fixes, `P1` to `P5` then `P6`
(41_hamming2418.md R108, R111). -/
def protectionTests : List (Nat × List Nat) :=
  [ (1, [1, 3, 5, 7, 9, 11, 13, 15, 17, 19, 21, 23]),
    (2, [2, 3, 6, 7, 10, 11, 14, 15, 18, 19, 22, 23]),
    (4, [4, 5, 6, 7, 12, 13, 14, 15, 20, 21, 22, 23]),
    (8, [8, 9, 10, 11, 12, 13, 14, 15]),
    (16, [16, 17, 18, 19, 20, 21, 22, 23]),
    (24, (List.range 24).map (· + 1)) ]

/-- Whether the bits of a codeword at some positions have odd parity (41_hamming2418.md R108). -/
def oddAt (positions : List Nat) (w : BitVec 24) : Bool :=
  positions.foldl (fun acc p => acc ^^ w.getLsbD (p - 1)) false

/-- The reference encoder `ENC2418(v)` as a 24-bit codeword, positions 1 to 24 from bit 0 up: the data
bits at their positions, `P1` to `P5` and then `P6` so that each test has odd parity
(41_hamming2418.md R111, 30_encoding.md R67). -/
def enc2418 (v : BitVec 18) : BitVec 24 :=
  let d (k : Nat) : Bool := v.getLsbD (k - 1)
  let p1 := true ^^ d 1 ^^ d 2 ^^ d 4 ^^ d 5 ^^ d 7 ^^ d 9 ^^ d 11 ^^ d 12 ^^ d 14 ^^ d 16 ^^ d 18
  let p2 := true ^^ d 1 ^^ d 3 ^^ d 4 ^^ d 6 ^^ d 7 ^^ d 10 ^^ d 11 ^^ d 13 ^^ d 14 ^^ d 17 ^^ d 18
  let p3 := true ^^ d 2 ^^ d 3 ^^ d 4 ^^ d 8 ^^ d 9 ^^ d 10 ^^ d 11 ^^ d 15 ^^ d 16 ^^ d 17 ^^ d 18
  let p4 := true ^^ d 5 ^^ d 6 ^^ d 7 ^^ d 8 ^^ d 9 ^^ d 10 ^^ d 11
  let p5 := true ^^ d 12 ^^ d 13 ^^ d 14 ^^ d 15 ^^ d 16 ^^ d 17 ^^ d 18
  let p6 := true ^^ p1 ^^ p2 ^^ d 1 ^^ p3 ^^ d 2 ^^ d 3 ^^ d 4 ^^ p4 ^^ d 5 ^^ d 6 ^^ d 7 ^^ d 8 ^^
    d 9 ^^ d 10 ^^ d 11 ^^ p5 ^^ d 12 ^^ d 13 ^^ d 14 ^^ d 15 ^^ d 16 ^^ d 17 ^^ d 18
  ofBits 24 [p1, p2, d 1, p3, d 2, d 3, d 4, p4, d 5, d 6, d 7, d 8, d 9, d 10, d 11, p5, d 12, d 13,
    d 14, d 15, d 16, d 17, d 18, p6]

/-- The HAM2418 instruction whose operand is the triplet `[w[7:0], w[15:8], w[23:16]]` of a codeword
(41_hamming2418.md R111). -/
def ham2418Of (w : BitVec 24) : Instr :=
  .ham2418 (w.extractLsb' 0 8) (w.extractLsb' 8 8) (w.extractLsb' 16 8)

/-- The result triplet that carries an 18-bit value: `[v[5:0], v[11:6], v[17:12]]`
(30_encoding.md R69). -/
def tripletOf (v : BitVec 18) : Response :=
  .triplet ((v.extractLsb' 0 6).setWidth 8) ((v.extractLsb' 6 6).setWidth 8)
    ((v.extractLsb' 12 6).setWidth 8)

/-! ## Bit reversal -/

/-- `T_REV[b]` by its closed form: `(b[0] << 7) | ... | b[7]` (43_reverse.md R126). -/
def revByFormula (b : Byte) : Byte :=
  ofBits 8 [b.getLsbD 7, b.getLsbD 6, b.getLsbD 5, b.getLsbD 4, b.getLsbD 3, b.getLsbD 2,
    b.getLsbD 1, b.getLsbD 0]

/-! ## FRAME -/

/-- The magazine of a nibble (44_framer.md R140, first row). -/
def magazineOfNibble (n1 : Nat) : Nat := if n1 % 8 = 0 then 8 else n1 % 8

/-- The Packet as a function of the framing code, the two decoded address values and the payload: the
four rows of 44_framer.md R140 with the closed form of `decodingError` of R139. -/
def packetByOutcome (fc address1 address2 : Byte) (data : List Byte) : Packet :=
  { framingCode := fc
    magazine := if address1 = sentinelByte then some 7 else some (magazineOfNibble address1.toNat)
    number :=
      if address2 = sentinelByte then none
      else if address1 = sentinelByte then some 31
      else some (address1.toNat / 8 + 2 * address2.toNat)
    type :=
      if address1 = sentinelByte ∨ address2 = sentinelByte then .unspecified
      else classify (address1.toNat / 8 + 2 * address2.toNat)
        (some (magazineOfNibble address1.toNat))
    decodingError := fc != framingCodeExpected || address2 == sentinelByte
    data := data }

/-! ## The five operations without tables -/

/-- The response of an instruction, computed without any table and without the steps of the machine;
`none` for a FRAME operand below 4 bytes.  "A model may replace any table by the closed-form function
given beside it; only the function from operand to result is observable" (10_state.md R25). -/
def closedResponse : Instr → Option Response
  | .ham84 b => some (.byte (ham84ByTests b))
  | .ham2418 t0 t1 t2 => some (ham2418ByFormula (codewordOf t0 t1 t2))
  | .oddpar b => some (.byte (if parity b = 1 then b &&& 0x7F#8 else 0x20#8))
  | .rev8 b => some (.byte (revByFormula b))
  | .frame (_ :: fc :: x1 :: x2 :: data) =>
    some (.packet (packetByOutcome fc (ham84ByTests x1) (ham84ByTests x2) data))
  | .frame _ => none

end Sys2Proof.Machine
end

