-- ==== Sys2Proof/Machine/Port.lean ====
section
/-!
DEFINITION. The encoding of the Packet record at a hardware port (30_encoding.md R73, R74).  A view of
the Packet: it has no effect on any result value (92_eei_decisions.md D3).  The reader `toPacket` is
the model's (DESIGN CHOICE, safe, log entry 13).
-/

namespace Sys2Proof.Machine

/-- The code of a packet type at the port (30_encoding.md R74). -/
def PacketType.code : PacketType → BitVec 4
  | .header => 0#4
  | .pageBody => 1#4
  | .fastext => 2#4
  | .topCommentary => 3#4
  | .pageReplacements => 4#4
  | .linkedPages => 5#4
  | .pageEnhancements => 6#4
  | .magazineEnhancements => 7#4
  | .broadcastServiceData => 8#4
  | .unspecified => 9#4

/-- The packet type of a port code; codes 10 to 15 are never produced and stand for none. -/
def packetTypeOfCode (c : BitVec 4) : Option PacketType :=
  [.header, .pageBody, .fastext, .topCommentary, .pageReplacements, .linkedPages, .pageEnhancements,
    .magazineEnhancements, .broadcastServiceData, PacketType.unspecified][c.toNat]?

/-- The port fields of a Packet (30_encoding.md R73). -/
structure PortPacket where
  framingCode : BitVec 8
  magValid : BitVec 1
  mag : BitVec 4
  numValid : BitVec 1
  num : BitVec 5
  type : BitVec 4
  decodingError : BitVec 1
  /-- `data_len`, as wide as needed. -/
  dataLen : Nat
  /-- `data`, `buf[4]` first. -/
  data : List Byte
deriving DecidableEq, Repr

/-- A Packet at the port: a valid bit and a value for each optional, the value 0 when it is absent
(30_encoding.md R73). -/
def Packet.toPort (p : Packet) : PortPacket :=
  { framingCode := p.framingCode
    magValid := if p.magazine.isSome then 1#1 else 0#1
    mag := BitVec.ofNat 4 (p.magazine.getD 0)
    numValid := if p.number.isSome then 1#1 else 0#1
    num := BitVec.ofNat 5 (p.number.getD 0)
    type := p.type.code
    decodingError := if p.decodingError then 1#1 else 0#1
    dataLen := p.data.length
    data := p.data }

/-- The Packet that port fields stand for; `none` for a type code that is never produced. -/
def PortPacket.toPacket (q : PortPacket) : Option Packet :=
  match packetTypeOfCode q.type with
  | none => none
  | some t =>
    some
      { framingCode := q.framingCode
        magazine := if q.magValid = 1#1 then some q.mag.toNat else none
        number := if q.numValid = 1#1 then some q.num.toNat else none
        type := t
        decodingError := q.decodingError == 1#1
        data := q.data }

end Sys2Proof.Machine
end

