-- ==== Sys2Proof/Safety.lean ====
section
/-!
DEFINITION. The terms claims use: which requests the block admits, which responses have the shape the
spec gives them, and the invariant of the machine.
-/

namespace Sys2Proof.Machine

/-- A request of the block: a select of an operation and an operand its format admits
(30_encoding.md R62, R63). -/
def admitted (r : Request) : Bool :=
  match rowOfSelect r.op with
  | some row => row.format.admits r.operand.length
  | none => false

/-- `exec` completes: the response of `i` is `r`, it is delivered after those before it, and nothing
else of the state changes.  This is an instruction's completion, its result and its frame in one.  That
the response is recorded with its instruction is the model's choice (log entries 1 and 14). -/
def Answers (i : Instr) (s : State) (r : Response) : Prop :=
  exec i s =
    .next { requests := s.requests, schedule := s.schedule, delivered := s.delivered ++ [⟨i, r⟩] }

/-- Whenever a request is served the step is refused: at a place the next event names, as the oldest
under an empty schedule, and as the oldest for a place that is not taken.  What the last two serve is
the model's choice (log entry 3). -/
def RefusedWhenServed (r : Request) (why : Refusal) : Prop :=
  ∀ (before after : List Request) (events : List Event) (done : List Delivery),
    step ⟨before ++ r :: after, .serve before.length :: events, done⟩ = .refused why ∧
      step ⟨r :: after, [], done⟩ = .refused why ∧
      ∀ place, after.length + 1 ≤ place →
        step ⟨r :: after, .serve place :: events, done⟩ = .refused why

/-- `n` steps, stopping at the first refusal. -/
def runSteps : Nat → State → Host.Outcome State Fault Refusal
  | 0, s => .next s
  | n + 1, s =>
    match step s with
    | .next t => runSteps n t
    | .fault why => .fault why
    | .refused why => .refused why

/-- The transaction a request gets when it is served alone, by the closed forms of the operations;
`none` for a request the block does not admit. -/
def transactionOf (r : Request) : Option Delivery :=
  match decode r with
  | .ok i => (closedResponse i).map fun resp => ⟨i, resp⟩
  | .error _ => none

/-- The invariants of a Packet (10_state.md R28, 44_framer.md R144). -/
def Packet.lawful (p : Packet) : Prop :=
  (∃ m, p.magazine = some m ∧ 1 ≤ m ∧ m ≤ 8) ∧
    (∀ n, p.number = some n → n ≤ 31) ∧
    (p.number = none → p.decodingError = true) ∧
    (p.type = .broadcastServiceData → p.number = some 30 ∧ p.magazine = some 8)

/-- The response has the shape and range the operation gives it (30_encoding.md R64); a REV8 byte has as
many set bits as its operand (43_reverse.md R125); a Packet keeps its invariants (10_state.md R28,
44_framer.md R144), the framing code (R131) and the payload (R136) of its operand. -/
def Delivery.sound (d : Delivery) : Prop :=
  match d.instr, d.response with
  | .ham84 _, .byte r => r.toNat ≤ 0x0F ∨ r = 0xFF#8
  | .ham2418 _ _ _, .triplet r0 r1 r2 =>
    (r0.toNat ≤ 0x3F ∧ r1.toNat ≤ 0x3F ∧ r2.toNat ≤ 0x3F) ∨
      (r0 = 0xFF#8 ∧ r1 = 0xFF#8 ∧ r2 = 0xFF#8)
  | .oddpar _, .byte r => r.toNat ≤ 0x7F
  | .rev8 b, .byte r => popcount r = popcount b
  | .frame buf, .packet p =>
    4 ≤ buf.length ∧ p.lawful ∧ buf[1]? = some p.framingCode ∧ p.data = buf.drop 4
  | _, _ => False

/-- The invariant: every response ever delivered is sound. -/
def State.Inv (s : State) : Prop := ∀ d ∈ s.delivered, d.sound

end Sys2Proof.Machine
end

