-- ==== Sys2Proof/Certificates/Slice0/Obligations.lean ====
section
/-!
DEFINITION. The statements about TTXCODEC, one definition each; OBLIGATIONS.json lists them with the
rules they rest on.  `Answers i s r` says that `exec` completes with response `r` and changes nothing
else (Sys2Proof/Safety.lean).
-/

open Sys2Proof Sys2Proof.Machine

/-- When the request the next event names decodes to an instruction, the step is exec of that
instruction in the state without that request and without the event. This holds for a named
place, for an empty schedule (the oldest request) and for a place that is not taken (the oldest
request). That the schedule is state, and what an untaken place does, are the model's choice (log
entries 1 and 3). (R6, R7, R60, R61.) -/
def Obligations.StepExecutesServedRequest : Prop :=
  ∀ (before after : List Request) (r : Request) (i : Instr) (events : List Event)
    (done : List Delivery), decode r = .ok i →
    step ⟨before ++ r :: after, .serve before.length :: events, done⟩ =
        exec i ⟨before ++ after, events, done⟩ ∧
      step ⟨r :: after, [], done⟩ = exec i ⟨after, [], done⟩ ∧
      ∀ place, after.length + 1 ≤ place →
        step ⟨r :: after, .serve place :: events, done⟩ = exec i ⟨after, events, done⟩

/-- When the decoder reads instruction i from a table word, the step on a state with that word placed
is exec of i in the state before the placing. The layout of a table word and the placing are the
model's choice (log entries 7 and 3). (30_encoding.md section 1, R60, R61.) -/
def Obligations.FetchWordRunsDecodedInstruction : Prop :=
  ∀ (s : State) (nbits w : Nat) (i : Instr), decodeTableWord nbits w = some i →
    step (s.withFetchWord nbits w) = exec i s

/-- For every byte and every state HAM84 completes with the value of the procedure of R91.
Equivalently it answers n when the byte differs from ENC84(n) in at most one bit, and 0xFF when
it is at distance 2 or more from every codeword. Nothing else of the state changes. (R91.) -/
def Obligations.Ham84AnswersNearestCodeword : Prop :=
  ∀ (b : Byte) (s : State),
    Answers (.ham84 b) s (.byte (ham84ByTests b)) ∧
      (∀ n : BitVec 4, popcount (b ^^^ enc84 n) ≤ 1 →
        Answers (.ham84 b) s (.byte (n.setWidth 8))) ∧
      ((∀ n : BitVec 4, 2 ≤ popcount (b ^^^ enc84 n)) → Answers (.ham84 b) s (.byte 0xFF#8))

/-- Every byte gives a value in 0 to 0x0F or exactly 0xFF. Every encoded nibble decodes to itself,
with no bit flipped and with any one of its 8 bits flipped. With any two distinct bits flipped
the answer is 0xFF. (R93.) -/
def Obligations.Ham84CorrectsOneDetectsTwo : Prop :=
  (∀ (b : Byte) (s : State), ∃ r : Byte, Answers (.ham84 b) s (.byte r) ∧
      (r.toNat ≤ 0x0F ∨ r = 0xFF#8)) ∧
    (∀ (v : BitVec 4) (s : State), Answers (.ham84 (enc84 v)) s (.byte (v.setWidth 8))) ∧
    (∀ (v : BitVec 4) (s : State) (i : Nat), i < 8 →
      Answers (.ham84 (enc84 v ^^^ (1#8 <<< i))) s (.byte (v.setWidth 8))) ∧
    (∀ (v : BitVec 4) (s : State) (i j : Nat), i < 8 → j < 8 → i ≠ j →
      Answers (.ham84 (enc84 v ^^^ (1#8 <<< i) ^^^ (1#8 <<< j))) s (.byte 0xFF#8))

/-- Exactly 112 of the 256 table entries are 0xFF, and each of the 16 nibbles is the entry of exactly
9 bytes. (R90, R93.) -/
def Obligations.Ham84SentinelCount : Prop :=
  ((List.range 256).countP fun n => tHam84 (BitVec.ofNat 8 n) == 0xFF#8) = 112 ∧
    ∀ v, v < 16 →
      ((List.range 256).countP fun n => tHam84 (BitVec.ofNat 8 n) == BitVec.ofNat 8 v) = 9

/-- For every triplet and every state HAM2418, which works by table lookups, completes with the
response of the closed form without tables of R110, and changes nothing else. (R110.) -/
def Obligations.Ham2418AnswersClosedForm : Prop :=
  ∀ (t0 t1 t2 : Byte) (s : State),
    Answers (.ham2418 t0 t1 t2) s (ham2418ByFormula (codewordOf t0 t1 t2))

/-- For every 18-bit value the triplet of its codeword, and that of the codeword with any one of its
24 bits flipped, gives the value's three 6-bit bytes. (The other clauses of R109 are other
statements or counts not stated.) (R109, R111.) -/
def Obligations.Ham2418CorrectsSingleErrors : Prop :=
  ∀ (v : BitVec 18) (s : State),
    Answers (ham2418Of (enc2418 v)) s (tripletOf v) ∧
      ∀ k, k < 24 → Answers (ham2418Of (enc2418 v ^^^ (1#24 <<< k))) s (tripletOf v)

/-- For every 18-bit value and any two distinct bits of its codeword, the triplet with both flipped
gives FF FF FF. (R109, R111.) -/
def Obligations.Ham2418DetectsDoubleErrors : Prop :=
  ∀ (v : BitVec 18) (s : State) (j k : Nat), j < 24 → k < 24 → j ≠ k →
    Answers (ham2418Of (enc2418 v ^^^ (1#24 <<< j) ^^^ (1#24 <<< k))) s
      (.triplet 0xFF#8 0xFF#8 0xFF#8)

/-- With mask the table entry of the syndrome and res32 the exclusive-or of the zero-extended raw
value with it: res32 is below 0x80000000 exactly when the mask is not 0x80000000. Then res32 is
below 2^18 and the response is its bits 5..0, 11..6 and 17..12, otherwise the response is FF FF
FF. (R106.) -/
def Obligations.Ham2418CorrectionSucceeds : Prop :=
  ∀ (t0 t1 t2 : Byte) (s : State) (mask res32 : BitVec 32),
    mask = tErr (syndrome t0 t1 t2) → res32 = (raw18 t0 t1 t2).setWidth 32 ^^^ mask →
      (res32 < 0x80000000#32 ↔ mask ≠ 0x80000000#32) ∧
        (res32 < 0x80000000#32 → res32.toNat < 2 ^ 18 ∧
          Answers (.ham2418 t0 t1 t2) s
            (.triplet (BitVec.ofNat 8 (res32.toNat % 64)) (BitVec.ofNat 8 (res32.toNat / 64 % 64))
              (BitVec.ofNat 8 (res32.toNat / 4096 % 64)))) ∧
        (¬ res32 < 0x80000000#32 →
          Answers (.ham2418 t0 t1 t2) s (.triplet 0xFF#8 0xFF#8 0xFF#8))

/-- HAM2418 always completes with three bytes that are all at most 0x3F or all 0xFF, and for each of
the three bytes, being 0xFF, having bit 7 set and having bit 6 set each say exactly that the
response is the sentinel. (R107.) -/
def Obligations.Ham2418SentinelUnambiguous : Prop :=
  ∀ (t0 t1 t2 : Byte) (s : State), ∃ r0 r1 r2 : Byte,
    Answers (.ham2418 t0 t1 t2) s (.triplet r0 r1 r2) ∧
      ((r0.toNat ≤ 0x3F ∧ r1.toNat ≤ 0x3F ∧ r2.toNat ≤ 0x3F) ∨
        (r0 = 0xFF#8 ∧ r1 = 0xFF#8 ∧ r2 = 0xFF#8)) ∧
      ∀ r, r ∈ [r0, r1, r2] →
        (r = 0xFF#8 ↔ r0 = 0xFF#8 ∧ r1 = 0xFF#8 ∧ r2 = 0xFF#8) ∧
          (r.getLsbD 7 = true ↔ r0 = 0xFF#8 ∧ r1 = 0xFF#8 ∧ r2 = 0xFF#8) ∧
          (r.getLsbD 6 = true ↔ r0 = 0xFF#8 ∧ r1 = 0xFF#8 ∧ r2 = 0xFF#8)

/-- For every 18-bit value, bit k of the value stands at the k-th data position of the codeword, and
each of the six tests has odd parity over its positions; these conditions hold of no other
codeword. The four codewords the spec gives as examples are the encoder's. (R111.) -/
def Obligations.EncoderSetsEveryTestOdd : Prop :=
  (∀ v : BitVec 18,
      (∀ k p, dataPositions[k]? = some p → (enc2418 v).getLsbD (p - 1) = v.getLsbD k) ∧
        (∀ test ∈ protectionTests, oddAt test.2 (enc2418 v) = true) ∧
        ∀ w : BitVec 24,
          (∀ k p, dataPositions[k]? = some p → w.getLsbD (p - 1) = v.getLsbD k) →
          (∀ test ∈ protectionTests, oddAt test.2 w = true) → w = enc2418 v) ∧
    ham2418Of (enc2418 0x00000#18) = .ham2418 0x8B#8 0x80#8 0x00#8 ∧
    ham2418Of (enc2418 0x3FFFF#18) = .ham2418 0x74#8 0x7F#8 0xFF#8 ∧
    ham2418Of (enc2418 0x00001#18) = .ham2418 0x8C#8 0x80#8 0x80#8 ∧
    ham2418Of (enc2418 0x12345#18) = .ham2418 0x2F#8 0xB4#8 0x24#8

/-- Every entry of T_PAR0, T_PAR1 and T_PAR2 is the exclusive-or of the weights of the set bits'
positions, with 0x3F folded into T_PAR2. Each table is affine over exclusive-or, with entry 0
equal to 0, 0 and 0x3F. (R104.) -/
def Obligations.ParityTablesAreAffine : Prop :=
  (∀ b : Byte, tPar0 b = par0ByFormula b ∧ tPar1 b = par1ByFormula b ∧ tPar2 b = par2ByFormula b) ∧
    (∀ a b : Byte, tPar0 (a ^^^ b) = tPar0 a ^^^ tPar0 b ^^^ tPar0 0#8 ∧
      tPar1 (a ^^^ b) = tPar1 a ^^^ tPar1 b ^^^ tPar1 0#8 ∧
      tPar2 (a ^^^ b) = tPar2 a ^^^ tPar2 b ^^^ tPar2 0#8) ∧
    tPar0 0#8 = 0x00#6 ∧ tPar1 0#8 = 0x00#6 ∧ tPar2 0#8 = 0x3F#6

/-- Every entry of T_D1D4, of T_ERR and of T_REV is the value of the formula the spec gives for it,
and T_D1D4 of the top six bits of a byte is its bits 2, 4, 5 and 6. (R102, R105, R126.) -/
def Obligations.DataAndMaskTablesMatchFormulas : Prop :=
  (∀ i : BitVec 6, tD1D4 i = d1d4ByFormula i) ∧ (∀ syn : BitVec 6, tErr syn = errByFormula syn) ∧
    (∀ b : Byte, tRev b = revByFormula b) ∧
    ∀ b : Byte, tD1D4 ((b >>> 2).setWidth 6) =
      ofBits 4 [b.getLsbD 2, b.getLsbD 4, b.getLsbD 5, b.getLsbD 6]

/-- For every triplet bit k of the syndrome is 1 exactly when the test of the k-th protection bit (A
to F) has even parity. For a codeword with one flipped bit the syndrome is 0x20 with the position
in its low five bits for positions 1 to 23, and 0x20 for position 24; with none flipped it is 0.
(R103, R108.) -/
def Obligations.SyndromeReportsFailedTests : Prop :=
  (∀ (t0 t1 t2 : Byte) (k : Nat) (test : Nat × List Nat), protectionTests[k]? = some test →
      (syndrome t0 t1 t2).getLsbD k = !oddAt test.2 (codewordOf t0 t1 t2)) ∧
    ∀ (v : BitVec 18) (w : BitVec 24),
      (w = enc2418 v →
        syndrome (w.extractLsb' 0 8) (w.extractLsb' 8 8) (w.extractLsb' 16 8) = 0x00#6) ∧
      ∀ p, 1 ≤ p → p ≤ 24 → w = enc2418 v ^^^ (1#24 <<< (p - 1)) →
        syndrome (w.extractLsb' 0 8) (w.extractLsb' 8 8) (w.extractLsb' 16 8) =
          if p = 24 then 0x20#6 else BitVec.ofNat 6 (0x20 + p)

/-- For every byte and state ODDPAR completes: with the low 7 bits of the byte when an odd number of
its eight bits is set, with 0x20 when an even number is. Nothing else of the state changes.
(R120, R70.) -/
def Obligations.OddparAnswers : Prop :=
  ∀ (b : Byte) (s : State),
    Answers (.oddpar b) s (.byte (if popcount b % 2 = 1 then b &&& 0x7F#8 else 0x20#8))

/-- A byte of odd parity gives its low 7 bits, a byte of even parity gives 0x20; exactly 128 bytes
have odd parity and they map one-to-one onto 0 to 0x7F. One flipped bit of a valid byte always
gives 0x20; two flipped bits pass undetected, with data that differs from the original. (R121.) -/
def Obligations.OddparKeepsOddReplacesEven : Prop :=
  (∀ (b : Byte) (s : State), popcount b % 2 = 1 → Answers (.oddpar b) s (.byte (b &&& 0x7F#8))) ∧
    (∀ (b : Byte) (s : State), popcount b % 2 = 0 → Answers (.oddpar b) s (.byte 0x20#8)) ∧
    ((List.range 256).countP fun n => popcount (BitVec.ofNat 8 n) % 2 == 1) = 128 ∧
    (∀ r : Byte, r.toNat ≤ 0x7F → ∃! b : Byte, popcount b % 2 = 1 ∧ b &&& 0x7F#8 = r) ∧
    (∀ (b : Byte) (s : State) (i : Nat), i < 8 → popcount b % 2 = 1 →
      Answers (.oddpar (b ^^^ (1#8 <<< i))) s (.byte 0x20#8)) ∧
    ∀ (b : Byte) (s : State) (i j : Nat), i < 8 → j < 8 → i ≠ j → popcount b % 2 = 1 →
      Answers (.oddpar (b ^^^ (1#8 <<< i) ^^^ (1#8 <<< j))) s
          (.byte ((b ^^^ (1#8 <<< i) ^^^ (1#8 <<< j)) &&& 0x7F#8)) ∧
        (b ^^^ (1#8 <<< i) ^^^ (1#8 <<< j)) &&& 0x7F#8 ≠ b &&& 0x7F#8

/-- The response of ODDPAR is 0x20 exactly for the byte 0x20 and the bytes of even parity, 129 bytes
in all; for each of them the response is the one response 0x20, so it carries no failure
indication. (R122.) -/
def Obligations.OddparFailureLooksLikeSpace : Prop :=
  (∀ (b : Byte) (s : State),
      Answers (.oddpar b) s (.byte 0x20#8) ↔ (b = 0x20#8 ∨ popcount b % 2 = 0)) ∧
    ((List.range 256).countP fun n =>
      BitVec.ofNat 8 n == 0x20#8 || popcount (BitVec.ofNat 8 n) % 2 == 0) = 129

/-- For every byte and state REV8 completes with a byte whose bit i is bit 7-i of the operand, for i
from 0 to 7, and which has as many set bits. It is the operand itself exactly when the operand is
one of the 16 listed. Nothing else of the state changes. (R125, R126.) -/
def Obligations.Rev8MirrorsBits : Prop :=
  ∀ (b : Byte) (s : State), ∃ r : Byte, Answers (.rev8 b) s (.byte r) ∧
    (∀ i, i < 8 → r.getLsbD i = b.getLsbD (7 - i)) ∧ popcount r = popcount b ∧
      (r = b ↔ b ∈ [0x00#8, 0x18#8, 0x24#8, 0x3C#8, 0x42#8, 0x5A#8, 0x66#8, 0x7E#8, 0x81#8, 0x99#8,
        0xA5#8, 0xBD#8, 0xC3#8, 0xDB#8, 0xE7#8, 0xFF#8])

/-- For every byte and state the response r of REV8 is such that REV8 of r responds with the byte;
and every byte is the response of exactly one operand. (R127.) -/
def Obligations.Rev8IsInvolution : Prop :=
  (∀ (b : Byte) (s s' : State), ∃ r : Byte,
      Answers (.rev8 b) s (.byte r) ∧ Answers (.rev8 r) s' (.byte b)) ∧
    ∀ (r : Byte) (s : State), ∃! b : Byte, Answers (.rev8 b) s (.byte r)

/-- For every operand of 4 or more bytes FRAME completes with the Packet whose magazine, number, type
and error are those of the four rows of R140, by whether each address byte decodes: an
undecodable first byte alone gives magazine 7, number 31, Unspecified and no error of its own.
The framing code alone is or-ed into the error, and nothing else of the state changes. (R140.) -/
def Obligations.FrameOutcomeByAddressBytes : Prop :=
  ∀ (b0 fc x1 x2 : Byte) (data : List Byte) (s : State),
    Answers (.frame (b0 :: fc :: x1 :: x2 :: data)) s
      (.packet (packetByOutcome fc (tHam84 x1) (tHam84 x2) data))

/-- For every operand of 4 or more bytes the Packet's decodingError is true exactly when its framing
code is not 0xE4, its magazine is absent or its number is absent, and exactly when the framing
byte is not 0xE4 or the second address byte does not decode. (R139.) -/
def Obligations.FrameErrorAggregatesCauses : Prop :=
  ∀ (b0 fc x1 x2 : Byte) (data : List Byte) (s : State), ∃ p : Packet,
    Answers (.frame (b0 :: fc :: x1 :: x2 :: data)) s (.packet p) ∧
      (p.decodingError = true ↔ p.framingCode ≠ 0xE4#8 ∨ p.magazine = none ∨ p.number = none) ∧
      (p.framingCode ≠ 0xE4#8 ↔ framingWrong fc = true) ∧
      (p.magazine = none ↔ magazineOutOfRange (magazineField (tHam84 x1)) = true) ∧
      (p.number = none ↔ numberOutOfRange (packetNumber (tHam84 x1) (tHam84 x2)) = true) ∧
      (p.decodingError = true ↔ fc ≠ 0xE4#8 ∨ tHam84 x2 = 0xFF#8)

/-- Every operand of 4 or more bytes gives a Packet that keeps the Packet invariants: magazine
present and in 1 to 8, number absent or in 0 to 31, absent number implies the error,
BroadcastServiceData implies number 30 and magazine 8. An operand that agrees from offset 1 on
gives the same Packet. (R144.) -/
def Obligations.FramePacketsAreLawful : Prop :=
  ∀ (buf : List Byte) (s : State), 4 ≤ buf.length → ∃ p : Packet,
    Answers (.frame buf) s (.packet p) ∧ p.lawful ∧
      ∀ (buf' : List Byte) (s' : State), buf'.drop 1 = buf.drop 1 →
        Answers (.frame buf') s' (.packet p)

/-- The masked value of every address value, the sentinel included, is at most 7. So for every
operand of 4 or more bytes the Packet's magazine is present, and decodingError is set by the
framing code or the packet number alone. (R143.) -/
def Obligations.FrameMagazineNeverAbsent : Prop :=
  (∀ address1 : Byte, (address1 &&& 0x07#8).toNat ≤ 7 ∧
      magazineOutOfRange (magazineField address1) = false) ∧
    ∀ (b0 fc x1 x2 : Byte) (data : List Byte) (s : State), ∃ p : Packet,
      Answers (.frame (b0 :: fc :: x1 :: x2 :: data)) s (.packet p) ∧
        (∃ m, p.magazine = some m) ∧
        p.decodingError =
          (framingWrong fc || numberOutOfRange (packetNumber (tHam84 x1) (tHam84 x2)))

/-- With num the untruncated packet number of the two decoded address values: 0 gives Header, 1 to 23
PageBody, 24 to 29 the six named types, 30 gives BroadcastServiceData exactly when the 3-bit
magazine field is 0 and else Unspecified, and 31 or more gives Unspecified. (R134.) -/
def Obligations.FrameClassifiesByNumber : Prop :=
  ∀ (b0 fc x1 x2 : Byte) (data : List Byte) (s : State) (num : Nat),
    num = (tHam84 x1).toNat / 8 ||| 2 * (tHam84 x2).toNat → ∃ p : Packet,
      Answers (.frame (b0 :: fc :: x1 :: x2 :: data)) s (.packet p) ∧
        (num = 0 → p.type = .header) ∧ (1 ≤ num → num ≤ 23 → p.type = .pageBody) ∧
        (num = 24 → p.type = .fastext) ∧ (num = 25 → p.type = .topCommentary) ∧
        (num = 26 → p.type = .pageReplacements) ∧ (num = 27 → p.type = .linkedPages) ∧
        (num = 28 → p.type = .pageEnhancements) ∧ (num = 29 → p.type = .magazineEnhancements) ∧
        (num = 30 → p.magazine = some 8 → p.type = .broadcastServiceData) ∧
        (num = 30 → p.magazine ≠ some 8 → p.type = .unspecified) ∧
        (p.magazine = some 8 ↔ (tHam84 x1).toNat % 8 = 0) ∧
        (31 ≤ num → p.type = .unspecified)

/-- With num the untruncated packet number: above 31 the number is absent and the error set,
otherwise the number is num and the error is that of the framing code. The number is above 31
exactly when the byte at offset 3 decodes to 0xFF, and num is then 510 or 511. (R135.) -/
def Obligations.FrameRejectsNumbersAbove31 : Prop :=
  ∀ (b0 fc x1 x2 : Byte) (data : List Byte) (s : State) (num : Nat),
    num = (tHam84 x1).toNat / 8 ||| 2 * (tHam84 x2).toNat → ∃ p : Packet,
      Answers (.frame (b0 :: fc :: x1 :: x2 :: data)) s (.packet p) ∧
        (31 < num → p.number = none ∧ p.decodingError = true) ∧
        (num ≤ 31 → p.number = some num ∧ (p.decodingError = true ↔ fc ≠ 0xE4#8)) ∧
        (31 < num ↔ tHam84 x2 = 0xFF#8) ∧
        (tHam84 x2 = 0xFF#8 → num = 510 ∨ num = 511)

/-- For every first address byte, decodable or not, the Packet's magazine is the low three bits of
its full 8-bit decoded value, and 8 where these are 0; the sentinel gives 7. (R132.) -/
def Obligations.FrameMagazineRemap : Prop :=
  ∀ (b0 fc x1 x2 : Byte) (data : List Byte) (s : State), ∃ p : Packet,
    Answers (.frame (b0 :: fc :: x1 :: x2 :: data)) s (.packet p) ∧
      ((tHam84 x1).toNat % 8 = 0 → p.magazine = some 8) ∧
      ((tHam84 x1).toNat % 8 ≠ 0 → p.magazine = some ((tHam84 x1).toNat % 8)) ∧
      (tHam84 x1 = 0xFF#8 → p.magazine = some 7)

/-- For every framing byte the Packet is the one of the same operand with 0xE4 there, but for the
framing code, which is the byte as read, and the error, which is also set when that byte is not
0xE4. (R131.) -/
def Obligations.FrameFramingCodeOnlySetsError : Prop :=
  ∀ (b0 fc x1 x2 : Byte) (data : List Byte) (s s' : State), ∃ p q : Packet,
    Answers (.frame (b0 :: fc :: x1 :: x2 :: data)) s (.packet p) ∧
      Answers (.frame (b0 :: 0xE4#8 :: x1 :: x2 :: data)) s' (.packet q) ∧
      p.framingCode = fc ∧ (fc ≠ 0xE4#8 → p.decodingError = true) ∧
      (fc = 0xE4#8 → p.decodingError = q.decodingError) ∧ p.magazine = q.magazine ∧
      p.number = q.number ∧ p.type = q.type ∧ p.data = q.data

/-- For every operand of 4 or more bytes the Packet's data are the operand without its first four
bytes, of length LINE_LEN - 4, and empty for an operand of 4 bytes. (R136.) -/
def Obligations.FrameCopiesPayload : Prop :=
  ∀ (buf : List Byte) (s : State), 4 ≤ buf.length → ∃ p : Packet,
    Answers (.frame buf) s (.packet p) ∧ p.data = buf.drop 4 ∧
      p.data.length = buf.length - 4 ∧ (buf.length = 4 → p.data = [])

/-- An operand of fewer than 4 bytes is refused by the meaning of FRAME, by the decoder, and by every
step that serves such a request, at whatever place it stands; every operand of 4 or more bytes
gives a Packet. (Which request a step serves, with the oldest under an empty schedule or for an
untaken place, is the model's choice, log entry 3, and that a refusal ends the run is log entry
12.) (R142, R47.) -/
def Obligations.FrameRefusesShortLines : Prop :=
  ∀ (buf : List Byte) (s : State),
    (buf.length < 4 → exec (.frame buf) s = .refused (.lineTooShort buf.length) ∧
      decode ⟨4#3, buf⟩ = .error (.lineTooShort buf.length) ∧
      RefusedWhenServed ⟨4#3, buf⟩ (.lineTooShort buf.length)) ∧
      (4 ≤ buf.length → ∃ p : Packet, Answers (.frame buf) s (.packet p))

/-- Whatever its operand and the rest of the state, every step that serves a request with operation
select 5, 6 or 7 is refused, at whatever place the request stands; and these are the only selects
that select no operation. (Which request a step serves, with the oldest under an empty schedule
or for an untaken place, is the model's choice, log entry 3, and that a refusal ends the run is
log entry 12.) (R62, R160.) -/
def Obligations.ReservedSelectsRefused : Prop :=
  (∀ r : Request, 5 ≤ r.op.toNat → RefusedWhenServed r (.reservedSelect r.op)) ∧
    ∀ op : BitVec 3, rowOfSelect op = none ↔ op = 5#3 ∨ op = 6#3 ∨ op = 7#3

/-- A request decodes exactly when its select is 0, 2 or 3 and its operand has one byte, its select
is 1 and its operand has three, or its select is 4 and its operand has at least four. The
operand's bytes do not matter. (R63.) -/
def Obligations.DecodableRequestsAreTheAdmitted : Prop :=
  ∀ r : Request, (∃ i, decode r = .ok i) ↔
    ((r.op = 0#3 ∨ r.op = 2#3 ∨ r.op = 3#3) ∧ r.operand.length = 1) ∨
      (r.op = 1#3 ∧ r.operand.length = 3) ∨ (r.op = 4#3 ∧ 4 ≤ r.operand.length)

/-- For every well-formed instruction, with every operand, the decoder reads from its request that
instruction. (R60, R61, R63.) -/
def Obligations.DecodeInvertsEncode : Prop :=
  ∀ i : Instr, i.wf = true → decode (encode i) = .ok i

/-- For every request that decodes, the instruction is well-formed and its encoding is that request,
so no two requests decode to one instruction. (R60, R61, R63.) -/
def Obligations.EncodeInvertsDecode : Prop :=
  ∀ (r : Request) (i : Instr), decode r = .ok i → i.wf = true ∧ encode i = r

/-- The 11-bit word of a B1 request and the 27-bit word of a B3 request give the request back, and
every such word is the word of the request read from it. (R60.) -/
def Obligations.FlatWordsRoundTrip : Prop :=
  (∀ (op : BitVec 3) (b : Byte), requestOfFlatB1 (flatB1 op b) = ⟨op, [b]⟩) ∧
    (∀ (op : BitVec 3) (t0 t1 t2 : Byte),
      requestOfFlatB3 (flatB3 op t0 t1 t2) = ⟨op, [t0, t1, t2]⟩) ∧
    (∀ (w : BitVec 11) (op : BitVec 3) (b : Byte), requestOfFlatB1 w = ⟨op, [b]⟩ →
      flatB1 op b = w) ∧
    ∀ (w : BitVec 27) (op : BitVec 3) (t0 t1 t2 : Byte),
      requestOfFlatB3 w = ⟨op, [t0, t1, t2]⟩ → flatB3 op t0 t1 t2 = w

/-- One request of each operation, written as (op, operand) in the spec's programs P1 to P4, decodes
to its instruction; (5, [15]) is refused by name. (R61, 95_test_vectors.md section 3.) -/
def Obligations.SampleRequestsDecode : Prop :=
  decode ⟨0b000#3, [0x15#8]⟩ = .ok (.ham84 0x15#8) ∧
    decode ⟨0b001#3, [0x2F#8, 0xB0#8, 0x24#8]⟩ = .ok (.ham2418 0x2F#8 0xB0#8 0x24#8) ∧
    decode ⟨0b010#3, [0xC8#8]⟩ = .ok (.oddpar 0xC8#8) ∧
    decode ⟨0b011#3, [0x40#8]⟩ = .ok (.rev8 0x40#8) ∧
    decode ⟨0b100#3, [0x00#8, 0x27#8, 0xA1#8, 0x2C#8, 0xC9#8, 0x93#8, 0x5A#8, 0x98#8]⟩ =
      .ok (.frame [0x00#8, 0x27#8, 0xA1#8, 0x2C#8, 0xC9#8, 0x93#8, 0x5A#8, 0x98#8]) ∧
    decode ⟨0b101#3, [0x15#8]⟩ = .error (.reservedSelect 0b101#3)

/-- Right after reset every delivered response is sound: none has been delivered. (The empty list is
the model's choice, log entry 1.) (R30, R180.) -/
def Obligations.InvariantHoldsAtReset : Prop :=
  State.Inv State.reset

/-- From every state whose delivered responses are all sound, a step gives a state whose delivered
responses are all sound: a HAM84 byte is a nibble or 0xFF, a HAM2418 triplet is three values up
to 0x3F or the sentinel, an ODDPAR byte is at most 0x7F, a REV8 byte has the operand's number of
set bits, a Packet is lawful and carries its operand's framing code and payload. (The record and
its pairing with instructions are the model's choice, log entries 1 and 14.) (R64, R28, R144,
R125, R131, R136.) -/
def Obligations.StepKeepsInvariant : Prop :=
  ∀ s t : State, s.Inv → step s = .next t → t.Inv

/-- The reset state has no request in progress; a step there changes nothing; and the step on the
reset state with one request issued is exec of its instruction. (The empty schedule, which serves
the oldest request, and the empty record of responses are the model's choice, log entries 3 and
1; so is that an idle block steps at all, log entry 2.) (R180, R30.) -/
def Obligations.FirstRequestServedLikeAnyOther : Prop :=
  State.reset = ⟨[], [], []⟩ ∧ step State.reset = .next State.reset ∧
    ∀ (r : Request) (i : Instr), decode r = .ok i →
      step (State.reset.issue r) = exec i State.reset

/-- When a reset is asserted, the step leaves no request in progress, delivers nothing, and keeps
what was delivered before. (The event, and that it abandons all requests of the instance, are the
model's choice, log entry 5.) (R180.) -/
def Obligations.ResetAbandonsRequestsInProgress : Prop :=
  ∀ (requests : List Request) (events : List Event) (done : List Delivery),
    step ⟨requests, .reset :: events, done⟩ = .next ⟨[], events, done⟩

/-- With no request in progress and no reset asserted, a step delivers nothing and leaves the block
idle. (That an idle block steps at all is the model's choice, log entry 2.) (R6, R180.) -/
def Obligations.IdleStepChangesNoResponse : Prop :=
  ∀ (place : Nat) (events : List Event) (done : List Delivery),
    step ⟨[], .serve place :: events, done⟩ = .next ⟨[], events, done⟩ ∧
      step ⟨[], [], done⟩ = .next ⟨[], [], done⟩

/-- Whenever a step gives a next state, the responses delivered before it stand unchanged at the
front, and at most one is added; when one is added it is the response of a request that was in
progress. (The record, its pairing with requests, the idle step and the reset that keeps it are
the model's choices, log entries 1, 14, 2 and 5.) (R29, R54, R6.) -/
def Obligations.DeliveredResponsesNeverChange : Prop :=
  ∀ s t : State, step s = .next t → ∃ new : List Delivery,
    t.delivered = s.delivered ++ new ∧ new.length ≤ 1 ∧
      ∀ d ∈ new, encode d.instr ∈ s.requests

/-- For every one of the five operations: when exec gives a next state, the requests in progress and
the schedule are unchanged and the record of responses is extended by exactly one, of that
instruction. (The record and its pairing are the model's choice, log entries 1 and 14.) (R46,
R20, R23.) -/
def Obligations.ExecOnlyDeliversOneResponse : Prop :=
  ∀ (i : Instr) (s t : State), exec i s = .next t →
    t.requests = s.requests ∧ t.schedule = s.schedule ∧
      ∃ r : Response, t.delivered = s.delivered ++ [⟨i, r⟩]

/-- If an instruction gives a response in one state, it gives the same response in every state,
whatever requests are in progress there and whatever was delivered before; and if it is refused
in one state, it is refused alike in every state. (R20, R48.) -/
def Obligations.ResponseIgnoresHistory : Prop :=
  (∀ (i : Instr) (s t : State), exec i s = .next t →
      ∃ r : Response, t.delivered = s.delivered ++ [⟨i, r⟩] ∧ ∀ s' : State, Answers i s' r) ∧
    ∀ (i : Instr) (s : State) (why : Refusal), exec i s = .refused why →
      ∀ s' : State, exec i s' = .refused why

/-- Every well-formed instruction completes in every state. When every request in progress is
admitted, a step gives a next state; and when no reset is asserted and a request is in progress,
it delivers one response and leaves one request fewer in progress. (That an idle block and a
reset give a next state, and that an untaken place serves the oldest request, are the model's
choices, log entries 2, 5 and 3. A FRAME operand below 4 bytes is not well-formed and is the
subject of FrameRefusesShortLines.) (R160, R8, R186.) -/
def Obligations.AdmittedRequestsAlwaysAnswered : Prop :=
  (∀ (i : Instr) (s : State), i.wf = true → ∃ r : Response, Answers i s r) ∧
    ∀ s : State, (∀ r ∈ s.requests, admitted r = true) → ∃ t, step s = .next t ∧
      (s.nextEvent ≠ .reset → s.requests ≠ [] →
        t.requests.length + 1 = s.requests.length ∧
          t.delivered.length = s.delivered.length + 1)

/-- Every well-formed instruction completes in every state with the response that its closed form
gives, computed without any table and without the seven steps, and changes nothing else. (R25,
R91, R110, R120, R126, R131, R136, R139, R140.) -/
def Obligations.OperationsMatchClosedForms : Prop :=
  ∀ (i : Instr) (s : State), i.wf = true →
    ∃ r : Response, closedResponse i = some r ∧ Answers i s r

/-- For every state whose requests in progress are all admitted and whose schedule asserts no reset:
after as many steps as there are requests, none is left, and the responses added are, up to their
order, exactly those each request would get alone, whatever order the schedule serves them in.
(The schedule, and that an empty one or an untaken place serves the oldest request, are the
model's choice, log entry 3; so is the pairing of responses with requests, log entry 14.) (R48,
R183, R171.) -/
def Obligations.ResponsesSameInAnyOrder : Prop :=
  ∀ s : State, (∀ r ∈ s.requests, admitted r = true) → Event.reset ∉ s.schedule →
    ∃ (t : State) (new : List Delivery),
      runSteps s.requests.length s = .next t ∧ t.requests = [] ∧
        t.delivered = s.delivered ++ new ∧
        List.Perm (new.map some) (s.requests.map transactionOf)

/-- For every lawful Packet the port fields give the Packet back. For every Packet each valid bit is
1 exactly when its optional is present, the value beside a clear valid bit is 0, data_len is the
number of data bytes, and the other fields are the Packet's. (R73, R74, R28.) -/
def Obligations.PortEncodingKeepsPackets : Prop :=
  (∀ p : Packet, p.lawful → p.toPort.toPacket = some p) ∧
    ∀ p : Packet,
      (p.toPort.magValid = 1#1 ↔ p.magazine.isSome = true) ∧
      (p.toPort.magValid = 0#1 → p.toPort.mag = 0#4) ∧
      (p.toPort.numValid = 1#1 ↔ p.number.isSome = true) ∧
      (p.toPort.numValid = 0#1 → p.toPort.num = 0#5) ∧
      (p.toPort.decodingError = 1#1 ↔ p.decodingError = true) ∧
      p.toPort.framingCode = p.framingCode ∧ p.toPort.type = p.type.code ∧
      p.toPort.dataLen = p.data.length ∧ p.toPort.data = p.data

/-- Each packet type has the port code of the list, and no packet type has a code of 10 or above.
(R74.) -/
def Obligations.PacketTypeCodes : Prop :=
  PacketType.code .header = 0#4 ∧ PacketType.code .pageBody = 1#4 ∧
    PacketType.code .fastext = 2#4 ∧ PacketType.code .topCommentary = 3#4 ∧
    PacketType.code .pageReplacements = 4#4 ∧ PacketType.code .linkedPages = 5#4 ∧
    PacketType.code .pageEnhancements = 6#4 ∧ PacketType.code .magazineEnhancements = 7#4 ∧
    PacketType.code .broadcastServiceData = 8#4 ∧ PacketType.code .unspecified = 9#4 ∧
    ∀ t : PacketType, t.code.toNat < 10

/-- For every raw packet number and magazine, the type FRAME gives by the raw number is the one that
classifying the number left by the range check gives, with Unspecified for an absent number. So
whether step 4 stands before or after step 5 cannot be observed. (R138, R134, R135.) -/
def Obligations.ClassificationOrderUnobservable : Prop :=
  ∀ (numRaw : Nat) (magazine : Option Nat),
    classify numRaw magazine =
      match numberOf numRaw with
      | some n => classify n magazine
      | none => .unspecified

/-- Whenever a request that does not decode is served, at whatever place it stands, the step is
refused for the decoder's reason. So it is for a HAM84, ODDPAR or REV8 select with an operand
that is not one byte, a HAM2418 select with one that is not three, and a FRAME select with fewer
than four. (Which request a step serves, with the oldest under an empty schedule or for an
untaken place, is the model's choice, log entry 3, and that a refusal ends the run is log entry
12.) (R160, R62, R63, R47.) -/
def Obligations.UndecodableRequestsRefused : Prop :=
  (∀ (r : Request) (e : DecodeError), decode r = .error e → RefusedWhenServed r (refusalOf e)) ∧
    (∀ (op : BitVec 3) (operand : List Byte), op = 0#3 ∨ op = 2#3 ∨ op = 3#3 →
      operand.length ≠ 1 → RefusedWhenServed ⟨op, operand⟩ (.operandLength op operand.length)) ∧
    (∀ operand : List Byte, operand.length ≠ 3 →
      RefusedWhenServed ⟨1#3, operand⟩ (.operandLength 1#3 operand.length)) ∧
    ∀ operand : List Byte, operand.length < 4 →
      RefusedWhenServed ⟨4#3, operand⟩ (.lineTooShort operand.length)
end

