-- ==== Sys2Proof/Laws/Decode.lean ====
section
/-!
SUPPORT. What the decoder's parts do.
-/

namespace Sys2Proof

/-- No two rows of the operation-select map match one select. -/
theorem opcodeTable_rows_disjoint :
    opcodeTable.Pairwise fun a b => ∀ op : BitVec 3,
      ¬ (op &&& a.mask = a.pattern ∧ op &&& b.mask = b.pattern) := by
  decide

/-- Each row's format is its operation's, and the operation's select matches its own row. -/
theorem opcodeTable_rows_agree :
    ∀ row ∈ opcodeTable, row.format = row.op.format ∧ rowOfSelect row.op.select = some row := by
  decide

/-- The row a select matches is a row of the map whose operation has that select. -/
theorem rowOfSelect_select (op : BitVec 3) (row : OpcodeRow) (h : rowOfSelect op = some row) :
    row ∈ opcodeTable ∧ row.op.select = op := by
  have all : ∀ op : BitVec 3, ∀ row ∈ opcodeTable, rowOfSelect op = some row →
      row.op.select = op := by
    decide
  have hmem : row ∈ opcodeTable := List.mem_of_find?_eq_some h
  exact ⟨hmem, all op row hmem h⟩

/-- The select of an operation matches the row of that operation, with its format. -/
theorem rowOfSelect_of_op (o : Op) :
    ∃ row, rowOfSelect o.select = some row ∧ row.op = o ∧ row.format = o.format := by
  cases o
  · exact ⟨⟨0b111#3, 0b000#3, .ham84, .b1⟩, by decide, rfl, rfl⟩
  · exact ⟨⟨0b111#3, 0b001#3, .ham2418, .b3⟩, by decide, rfl, rfl⟩
  · exact ⟨⟨0b111#3, 0b010#3, .oddpar, .b1⟩, by decide, rfl, rfl⟩
  · exact ⟨⟨0b111#3, 0b011#3, .rev8, .b1⟩, by decide, rfl, rfl⟩
  · exact ⟨⟨0b111#3, 0b100#3, .frame, .bn⟩, by decide, rfl, rfl⟩

theorem bytesOfNat_length (n w : Nat) : (bytesOfNat n w).length = n := by
  induction n generalizing w with
  | zero => rfl
  | succ n ih => simp [bytesOfNat, ih]

end Sys2Proof
end

