-- ==== Sys2Proof/Laws/State.lean ====
section
/-!
SUPPORT. One lemma for each field of State under each update of it.
-/

namespace Sys2Proof.Machine

variable (s : State) (r : Request) (i : Instr) (resp : Response)

@[simp] theorem State.issue_requests : (s.issue r).requests = s.requests ++ [r] := rfl
@[simp] theorem State.issue_schedule : (s.issue r).schedule = s.schedule := rfl
@[simp] theorem State.issue_delivered : (s.issue r).delivered = s.delivered := rfl

@[simp] theorem State.idle_requests : s.idle.requests = s.requests := rfl
@[simp] theorem State.idle_schedule : s.idle.schedule = s.schedule.tail := rfl
@[simp] theorem State.idle_delivered : s.idle.delivered = s.delivered := rfl

@[simp] theorem State.abandonRequests_requests : s.abandonRequests.requests = [] := rfl
@[simp] theorem State.abandonRequests_schedule :
    s.abandonRequests.schedule = s.schedule.tail := rfl
@[simp] theorem State.abandonRequests_delivered : s.abandonRequests.delivered = s.delivered := rfl

@[simp] theorem State.deliver_requests : (s.deliver i resp).requests = s.requests := rfl
@[simp] theorem State.deliver_schedule : (s.deliver i resp).schedule = s.schedule := rfl
@[simp] theorem State.deliver_delivered :
    (s.deliver i resp).delivered = s.delivered ++ [⟨i, resp⟩] := rfl

end Sys2Proof.Machine
end

