-- ==== Sys2Proof/Laws/Ops.lean ====
section
/-!
SUPPORT. What each shared operation does: the operand buffer, the line buffer's fields, the order of
serving, the bits of `ofBits`, the lengths of the tables.
-/

namespace Sys2Proof.Machine

/-! ## The operand buffer -/

theorem memRead_eq_none_iff (buf : List Byte) (addr n : Nat) :
    memRead buf addr n = none ↔ buf.length < addr + n := by
  unfold memRead
  split <;> simp <;> omega

theorem memRead_eq_some (buf : List Byte) (addr n : Nat) (h : addr + n ≤ buf.length) :
    memRead buf addr n = some ((buf.drop addr).take n) := by
  simp [memRead, h]

theorem memByte_eq_getElem? (buf : List Byte) (i : Nat) : memByte buf i = buf[i]? := by
  unfold memByte memRead
  split
  · rename_i h
    have hi : i < buf.length := by omega
    simp [List.head?_take, hi]
  · rename_i h
    have hi : buf.length ≤ i := by omega
    simp [hi]

theorem lineFields_of_four (b0 fc x1 x2 : Byte) (data : List Byte) :
    lineFields (b0 :: fc :: x1 :: x2 :: data) = some ⟨fc, x1, x2, data⟩ := by
  simp [lineFields, memByte_eq_getElem?, offFraming, offAddr1, offAddr2, offData, memRest]

theorem four_le_length_iff (buf : List Byte) :
    4 ≤ buf.length ↔ ∃ b0 fc x1 x2 data, buf = b0 :: fc :: x1 :: x2 :: data := by
  constructor
  · intro h
    match buf, h with
    | b0 :: fc :: x1 :: x2 :: data, _ => exact ⟨b0, fc, x1, x2, data, rfl⟩
  · rintro ⟨b0, fc, x1, x2, data, rfl⟩
    simp

theorem lineFields_eq_none_iff (buf : List Byte) : lineFields buf = none ↔ buf.length < 4 := by
  constructor
  · intro h
    by_contra hlen
    obtain ⟨b0, fc, x1, x2, data, rfl⟩ := (four_le_length_iff buf).1 (by omega)
    simp [lineFields_of_four] at h
  · intro h
    have h3 : memByte buf offAddr2 = none := by
      rw [memByte_eq_getElem?, offAddr2, List.getElem?_eq_none_iff]
      omega
    unfold lineFields
    rw [h3]
    cases memByte buf offFraming <;> cases memByte buf offAddr1 <;> rfl

/-! ## The order of serving -/

@[simp] theorem State.nextEvent_nil (s : State) (h : s.schedule = []) :
    s.nextEvent = .serve 0 := by
  simp [State.nextEvent, h]

@[simp] theorem State.nextEvent_cons (s : State) (e : Event) (es : List Event)
    (h : s.schedule = e :: es) : s.nextEvent = e := by
  simp [State.nextEvent, h]

/-- Nothing is taken exactly when nothing is in progress. -/
theorem State.takeRequest_eq_none_iff (s : State) (place : Nat) :
    s.takeRequest place = none ↔ s.requests = [] := by
  unfold State.takeRequest
  constructor
  · intro h
    split at h
    · simp at h
    · rename_i hnone
      rw [List.getElem?_eq_none_iff] at hnone
      unfold State.servedPlace at hnone
      split at hnone
      · omega
      · exact List.eq_nil_of_length_eq_zero (by omega)
  · intro h
    simp [h]

/-- Taking a request: it stood at the served place, it leaves the requests in progress, its event
leaves the schedule, and nothing delivered changes. -/
theorem State.takeRequest_eq_some_iff (s t : State) (place : Nat) (r : Request) :
    s.takeRequest place = some (r, t) ↔
      s.requests[s.servedPlace place]? = some r ∧
        t = ⟨s.requests.eraseIdx (s.servedPlace place), s.schedule.tail, s.delivered⟩ := by
  unfold State.takeRequest
  cases h : s.requests[s.servedPlace place]? with
  | none => simp
  | some r' =>
    simp only [Option.some.injEq, Prod.mk.injEq]
    exact ⟨fun ⟨hr, ht⟩ => ⟨hr, ht.symm⟩, fun ⟨hr, ht⟩ => ⟨hr, ht.symm⟩⟩

/-- The request at the place an event names is taken, from among those before and after it. -/
theorem State.takeRequest_at_place (before after : List Request) (r : Request) (e : Event)
    (events : List Event) (done : List Delivery) :
    State.takeRequest ⟨before ++ r :: after, e :: events, done⟩ before.length =
      some (r, ⟨before ++ after, events, done⟩) := by
  simp [State.takeRequest, State.servedPlace, List.eraseIdx_append_of_length_le]

/-- The oldest request is taken for place 0 and for a place that no request takes. -/
theorem State.takeRequest_oldest (after : List Request) (r : Request) (schedule : List Event)
    (done : List Delivery) (place : Nat) (h : place = 0 ∨ after.length + 1 ≤ place) :
    State.takeRequest ⟨r :: after, schedule, done⟩ place =
      some (r, ⟨after, schedule.tail, done⟩) := by
  have served : State.servedPlace ⟨r :: after, schedule, done⟩ place = 0 := by
    rcases h with rfl | h
    · simp [State.servedPlace]
    · simp [State.servedPlace, show ¬ place < after.length + 1 by omega]
  simp [State.takeRequest, served]

/-! ## The address nibbles -/

/-- The 3-bit magazine field is the decoded value modulo 8 (10_state.md R26). -/
theorem magazineField_toNat (address1 : Byte) :
    (magazineField address1).toNat = address1.toNat % 8 := by
  rw [magazineField, BitVec.toNat_setWidth, BitVec.toNat_and]
  change (address1.toNat &&& (2 ^ 3 - 1)) % 8 = address1.toNat % 8
  rw [Nat.and_two_pow_sub_one_eq_mod, Nat.mod_mod]

/-! ## Bits -/

theorem ofBits_getLsbD (w : Nat) (bs : List Bool) (i : Nat) :
    (ofBits w bs).getLsbD i = (decide (i < w) && bs.getD i false) := by
  induction bs generalizing i with
  | nil => simp [ofBits]
  | cons b bs ih =>
    cases i with
    | zero => cases b <;> simp [ofBits]
    | succ k =>
      have shifted : (ofBits w bs <<< 1).getLsbD (k + 1) =
          (decide (k + 1 < w) && bs.getD k false) := by
        rw [BitVec.getLsbD_shiftLeft, Nat.add_sub_cancel, ih]
        by_cases hw : k + 1 < w
        · simp [hw, show k < w by omega]
        · simp [hw]
      have low : (if b then 1#w else 0#w).getLsbD (k + 1) = false := by
        cases b <;> simp [BitVec.getLsbD_one]
      rw [ofBits, BitVec.getLsbD_or, low, shifted, Bool.false_or, List.getD_cons_succ]

/-! ## The tables -/

theorem romHam84_length : romHam84.length = 256 := by
  simp only [romHam84, List.length_append, List.length_cons, List.length_nil]
theorem romD1D4_length : romD1D4.length = 64 := by
  simp only [romD1D4, List.length_append, List.length_cons, List.length_nil]
theorem romPar0_length : romPar0.length = 256 := by
  simp only [romPar0, List.length_append, List.length_cons, List.length_nil]
theorem romPar1_length : romPar1.length = 256 := by
  simp only [romPar1, List.length_append, List.length_cons, List.length_nil]
theorem romPar2_length : romPar2.length = 256 := by
  simp only [romPar2, List.length_append, List.length_cons, List.length_nil]
theorem romErr_length : romErr.length = 64 := by
  simp only [romErr, List.length_append, List.length_cons, List.length_nil]
theorem romRev_length : romRev.length = 256 := by
  simp only [romRev, List.length_append, List.length_cons, List.length_nil]

end Sys2Proof.Machine
end

