-- ==== Sys2Proof/Laws/PerInstr.lean ====
section
/-!
SUPPORT. Statements made of each instruction as syntax.
-/

namespace Sys2Proof.Laws

/-- A well-formed instruction encodes to a select of the row of its operation, with an operand its
format admits (30_encoding.md R61, R63). -/
def EncodesToItsRow.Statement (i : Instr) : Prop :=
  i.wf = true → ∃ row, rowOfSelect (encode i).op = some row ∧ row.op = i.op ∧
    row.format.admits (encode i).operand.length = true

/-- The row of an instruction, once its operation's format admits its operand. -/
theorem encodes_to_its_row_of_admits (i : Instr)
    (h : i.wf = true → i.op.format.admits i.operand.length = true) :
    EncodesToItsRow.Statement i := by
  intro hwf
  obtain ⟨row, hrow, hop, hformat⟩ := rowOfSelect_of_op i.op
  exact ⟨row, hrow, hop, by rw [hformat]; exact h hwf⟩

theorem EncodesToItsRow.ham84 (b : Byte) : EncodesToItsRow.Statement (.ham84 b) :=
  encodes_to_its_row_of_admits _ fun _ => rfl

theorem EncodesToItsRow.ham2418 (t0 t1 t2 : Byte) :
    EncodesToItsRow.Statement (.ham2418 t0 t1 t2) :=
  encodes_to_its_row_of_admits _ fun _ => rfl

theorem EncodesToItsRow.oddpar (b : Byte) : EncodesToItsRow.Statement (.oddpar b) :=
  encodes_to_its_row_of_admits _ fun _ => rfl

theorem EncodesToItsRow.rev8 (b : Byte) : EncodesToItsRow.Statement (.rev8 b) :=
  encodes_to_its_row_of_admits _ fun _ => rfl

theorem EncodesToItsRow.frame (buf : List Byte) : EncodesToItsRow.Statement (.frame buf) :=
  encodes_to_its_row_of_admits _ fun h => h

end Sys2Proof.Laws
end

