-- ==== Sys2Proof/Laws/Step.lean ====
section
/-!
SUPPORT. Everything a step can do.
-/

namespace Sys2Proof.Machine

/-- A step that gives a next state abandons the requests on a reset, is idle with none in progress, or
executes the instruction of the request it takes. -/
theorem step_next_cases (s t : State) (h : step s = .next t) :
    (s.nextEvent = .reset ∧ t = s.abandonRequests) ∨
      (∃ place, s.nextEvent = .serve place ∧ s.requests = [] ∧ t = s.idle) ∨
      ∃ place r s' i, s.nextEvent = .serve place ∧ s.takeRequest place = some (r, s') ∧
        decode r = .ok i ∧ exec i s' = .next t := by
  unfold step at h
  cases hev : s.nextEvent with
  | reset =>
    rw [hev] at h
    exact .inl ⟨rfl, (Host.Outcome.next.inj h).symm⟩
  | serve place =>
    rw [hev] at h
    right
    cases htake : s.takeRequest place with
    | none =>
      simp only [htake] at h
      exact .inl ⟨place, rfl, (s.takeRequest_eq_none_iff place).1 htake,
        (Host.Outcome.next.inj h).symm⟩
    | some taken =>
      obtain ⟨r, s'⟩ := taken
      simp only [htake] at h
      cases hdec : decode r with
      | error e => simp [hdec] at h
      | ok i =>
        simp only [hdec] at h
        exact .inr ⟨place, r, s', i, rfl, htake, hdec, h⟩

/-- A step is refused only by the request it takes: one that does not decode, or one whose
instruction is refused. -/
theorem step_refused_cases (s : State) (why : Refusal) (h : step s = .refused why) :
    ∃ place r s', s.nextEvent = .serve place ∧ s.takeRequest place = some (r, s') ∧
      ((∃ e, decode r = .error e ∧ why = refusalOf e) ∨
        ∃ i, decode r = .ok i ∧ exec i s' = .refused why) := by
  unfold step at h
  cases hev : s.nextEvent with
  | reset => simp [hev] at h
  | serve place =>
    rw [hev] at h
    cases htake : s.takeRequest place with
    | none => simp [htake] at h
    | some taken =>
      obtain ⟨r, s'⟩ := taken
      simp only [htake] at h
      refine ⟨place, r, s', rfl, htake, ?_⟩
      cases hdec : decode r with
      | error e =>
        simp only [hdec] at h
        exact .inl ⟨e, rfl, (Host.Outcome.refused.inj h).symm⟩
      | ok i =>
        simp only [hdec] at h
        exact .inr ⟨i, rfl, h⟩

end Sys2Proof.Machine
end

