-- ==== Sys2Proof/Tests/Slice0.lean ====
section
/-!
SUPPORT. Small tests, each of one step or one function on fixed values, and for each statement with
hypotheses a witness that meets them.  Expected results are those of 95_test_vectors.md (X, H, T, F
and P numbers in the comments) or of the rule named.
-/

namespace Sys2Proof.Machine

/-! ## Well-formed terms -/

-- R142: a line buffer of 0 to 3 bytes is refused by the check, one of 4 is not (F17).
theorem test_wf_refuses_empty_line : Instr.wf (.frame []) = false := by decide
theorem test_wf_refuses_three_byte_line :
    Instr.wf (.frame [0x00#8, 0xE4#8, 0x02#8]) = false := by decide
theorem test_wf_admits_four_byte_line :
    Instr.wf (.frame [0x00#8, 0xE4#8, 0x02#8, 0x15#8]) = true := by decide

/-! ## Decoding: words written out from R60, R61 and the layouts R65, R67, R70, R41 -/

-- op = 000; byte P1 D1 P2 D2 P3 D3 P4 D4 from bit 0: the codeword of nibble 0 (R95).
theorem test_decode_ham84 :
    decode (requestOfFlatB1 0b000_00010101#11) = .ok (.ham84 0x15#8) := by decide
-- op = 001; t[2], t[1], t[0] from the top: the codeword of 0x12345 (T7).
theorem test_decode_ham2418 :
    decode (requestOfFlatB3 0b001_00100100_10110100_00101111#27) =
      .ok (.ham2418 0x2F#8 0xB4#8 0x24#8) := by decide
-- op = 010; parity bit 1 in bit 7, data 1001000.
theorem test_decode_oddpar :
    decode (requestOfFlatB1 0b010_11001000#11) = .ok (.oddpar 0xC8#8) := by decide
-- op = 011; the framing code.
theorem test_decode_rev8 :
    decode (requestOfFlatB1 0b011_11100100#11) = .ok (.rev8 0xE4#8) := by decide
-- op = 100; offsets 0 to 5 of F1.
theorem test_decode_frame :
    decode ⟨0b100#3, [0x00#8, 0b11100100#8, 0b00000010#8, 0b00010101#8, 0x11#8, 0x22#8]⟩ =
      .ok (.frame [0x00#8, 0xE4#8, 0x02#8, 0x15#8, 0x11#8, 0x22#8]) := by decide

-- P4: (5, [15]) is refused; R63: a triplet of two bytes is; F17: a line of three bytes is.
theorem test_decode_refuses_reserved :
    decode ⟨5#3, [0x15#8]⟩ = .error (.reservedSelect 5#3) := by decide
theorem test_decode_refuses_two_byte_triplet :
    decode ⟨1#3, [0x2F#8, 0xB4#8]⟩ = .error (.operandLength 1#3 2) := by decide
theorem test_decode_refuses_three_byte_line :
    decode ⟨4#3, [0x00#8, 0xE4#8, 0x02#8]⟩ = .error (.lineTooShort 3) := by decide

-- A table word: select in bits 2..0, operand byte k in bits 8k+15..8k+8 (log entry 7).
theorem test_table_word_ham2418 :
    decodeTableWord 32 0x24B42F01 = some (.ham2418 0x2F#8 0xB4#8 0x24#8) := by decide
theorem test_table_word_select_only :
    decodeTableWord 8 4 = some (.frame [0x00#8, 0x00#8, 0x00#8, 0x00#8]) := by decide

/-! ## The operations -/

/-- The response of an instruction after reset. -/
def answerAtReset (i : Instr) : Option Response :=
  match exec i State.reset with
  | .next t => t.delivered.getLast?.map Delivery.response
  | .fault _ => none
  | .refused _ => none

-- H4 (bit 1 of C7 flipped), H5 (bits 0 and 2 of 15 flipped).
theorem test_ham84_corrects_single :
    answerAtReset (.ham84 0xC5#8) = some (.byte 0x09#8) := by decide
theorem test_ham84_detects_double :
    answerAtReset (.ham84 0x10#8) = some (.byte 0xFF#8) := by decide
-- T12 position 23, T13 (positions 6 and 18).
theorem test_ham2418_corrects_single :
    answerAtReset (.ham2418 0x2F#8 0xB4#8 0x64#8) =
      some (.triplet 0x05#8 0x0D#8 0x12#8) := by decide
theorem test_ham2418_detects_double :
    answerAtReset (.ham2418 0x0F#8 0xB4#8 0x26#8) =
      some (.triplet 0xFF#8 0xFF#8 0xFF#8) := by decide
-- Section 2.3: C1 is "A" with right parity, 41 with wrong parity.
theorem test_oddpar_valid : answerAtReset (.oddpar 0xC1#8) = some (.byte 0x41#8) := by decide
theorem test_oddpar_substitutes : answerAtReset (.oddpar 0x41#8) = some (.byte 0x20#8) := by decide
-- Section 2.4.
theorem test_rev8_framing_code : answerAtReset (.rev8 0xE4#8) = some (.byte 0x27#8) := by decide
theorem test_rev8_mixed : answerAtReset (.rev8 0x12#8) = some (.byte 0x48#8) := by decide
-- F6b: 511 needs the ninth bit; F3: magazine field 0 and packet 30.
theorem test_frame_undecodable_second_address :
    answerAtReset (.frame [0x00#8, 0xE4#8, 0xC7#8, 0x01#8]) =
      some (.packet ⟨0xE4#8, some 1, none, .unspecified, true, []⟩) := by decide
theorem test_frame_broadcast_service_data :
    answerAtReset (.frame [0x00#8, 0xE4#8, 0x15#8, 0xEA#8]) =
      some (.packet ⟨0xE4#8, some 8, some 30, .broadcastServiceData, false, []⟩) := by decide
-- F7: an undecodable first address byte is silent; X13: a wrong framing code.
theorem test_frame_undecodable_first_address :
    framePacket ⟨0xE4#8, 0x01#8, 0x15#8, []⟩ =
      ⟨0xE4#8, some 7, some 31, .unspecified, false, []⟩ := by decide
theorem test_frame_bad_framing :
    framePacket ⟨0x00#8, 0x02#8, 0x15#8, [0x11#8, 0x22#8]⟩ =
      ⟨0x00#8, some 1, some 0, .header, true, [0x11#8, 0x22#8]⟩ := by decide

/-! ## The interface -/

-- R180: a reset drops the request in progress without a response.
theorem test_reset_drops_request :
    (match step ⟨[⟨0#3, [0x15#8]⟩], [.reset], []⟩ with
      | .next t => decide (t = State.reset)
      | _ => false) = true := by decide
-- R48: the younger request may be served first.
theorem test_younger_request_served_first :
    (match step ⟨[⟨0#3, [0x15#8]⟩, ⟨3#3, [0x15#8]⟩], [.serve 1], []⟩ with
      | .next t => decide (t = ⟨[⟨0#3, [0x15#8]⟩], [], [⟨.rev8 0x15#8, .byte 0xA8#8⟩]⟩)
      | _ => false) = true := by decide
-- R62 through a step.
theorem test_reserved_select_stops :
    (match step ⟨[⟨7#3, []⟩], [], []⟩ with
      | .refused why => decide (why = .reservedSelect 7#3)
      | _ => false) = true := by decide

-- R63 through a step that serves the second place.
theorem test_wrong_length_at_second_place_stops :
    (match step ⟨[⟨0#3, [0x15#8]⟩, ⟨1#3, [0x2F#8]⟩], [.serve 1], []⟩ with
      | .refused why => decide (why = .operandLength 1#3 1)
      | _ => false) = true := by decide

/-! ## Port and text -/

-- R73, R74 on F3.
theorem test_port_fields :
    Packet.toPort ⟨0xE4#8, some 8, some 30, .broadcastServiceData, false, [0x99#8]⟩ =
      ⟨0xE4#8, 1#1, 8#4, 1#1, 30#5, 8#4, 0#1, 1, [0x99#8]⟩ := by decide
theorem test_port_fields_absent_number :
    Packet.toPort ⟨0xE4#8, some 1, none, .unspecified, true, []⟩ =
      ⟨0xE4#8, 1#1, 1#4, 0#1, 0#5, 9#4, 1#1, 0, []⟩ := by decide
-- R77's own example of HAM2418.
theorem test_delivery_text :
    deliveryText
        ⟨.ham2418 0x2F#8 0xB4#8 0x24#8, .triplet 0x05#8 0x0D#8 0x12#8⟩ =
      "HAM2418 2F B4 24 => 05 0D 12".toList := by decide
-- P2 line 3, its operand taken from the Packet named p.
theorem test_read_line_with_names :
    readLine "t = HAM2418 p.data[1] p.data[2] 24".toList =
      some ⟨some ['t'], .ham2418,
        [.dataByte ['p'] 1, .dataByte ['p'] 2, .literal 0x24#8]⟩ := by decide
theorem test_line_operand_from_response :
    ProgramLine.request
        [(['p'], .packet ⟨0xE4#8, some 2, some 26, .pageReplacements, false,
          [0x15#8, 0x2F#8, 0xB0#8, 0x24#8]⟩)]
        ⟨some ['t'], .ham2418, [.dataByte ['p'] 1, .dataByte ['p'] 2, .literal 0x24#8]⟩ =
      some ⟨1#3, [0x2F#8, 0xB0#8, 0x24#8]⟩ := by decide

/-! ## Witnesses: the hypotheses of each statement are met -/

/-- A state with one request of each format in progress and one response delivered. -/
def sampleState : State :=
  ⟨[⟨0#3, [0x15#8]⟩, ⟨1#3, [0x2F#8, 0xB0#8, 0x24#8]⟩, ⟨4#3, [0x00#8, 0xE4#8, 0x02#8, 0x15#8]⟩],
    [.serve 2, .serve 7], [⟨.oddpar 0xC8#8, .byte 0x48#8⟩]⟩

theorem sampleState_inv : sampleState.Inv := by
  intro d hd
  simp only [sampleState, List.mem_singleton] at hd
  subst hd
  exact (by decide : (0x48#8).toNat ≤ 0x7F)

theorem test_witness_StepExecutesServedRequest :
    decode ⟨0#3, [0x15#8]⟩ = .ok (.ham84 0x15#8) ∧ ([] : List Request).length + 1 ≤ 1 := by decide
theorem test_witness_FetchWordRunsDecodedInstruction :
    decodeTableWord 8 0 = some (.ham84 0x00#8) := by decide
theorem test_witness_Ham84AnswersNearestCodeword :
    popcount (0x15#8 ^^^ enc84 0#4) ≤ 1 ∧ popcount (0x14#8 ^^^ enc84 0#4) ≤ 1 ∧
      ∀ n : BitVec 4, 2 ≤ popcount (0x16#8 ^^^ enc84 n) := by decide
theorem test_witness_Ham84CorrectsOneDetectsTwo :
    (0 < 8 ∧ 7 < 8 ∧ 0 ≠ 7) ∧ enc84 0#4 = 0x15#8 ∧ enc84 15#4 = 0xEA#8 := by decide
theorem test_witness_Ham84SentinelCount : 0 < 16 ∧ 15 < 16 := by decide
theorem test_witness_Ham2418CorrectsSingleErrors :
    0 < 24 ∧ 23 < 24 ∧ enc2418 0x12345#18 = 0x24B42F#24 := by decide +kernel
theorem test_witness_Ham2418DetectsDoubleErrors :
    0 < 24 ∧ 23 < 24 ∧ 0 ≠ 23 ∧ enc2418 0x3FFFF#18 = 0xFF7F74#24 := by decide +kernel
-- T15: 01 02 03 decodes after a correction, 00 00 00 does not.
theorem test_witness_Ham2418CorrectionSucceeds :
    (tErr (syndrome 0x01#8 0x02#8 0x03#8) = 0x00020000#32 ∧
      (raw18 0x01#8 0x02#8 0x03#8).setWidth 32 ^^^ 0x00020000#32 = 0x21820#32 ∧
      0x21820#32 < 0x80000000#32) ∧
      (tErr (syndrome 0x00#8 0x00#8 0x00#8) = 0x80000000#32 ∧
        (raw18 0x00#8 0x00#8 0x00#8).setWidth 32 ^^^ 0x80000000#32 = 0x80000000#32 ∧
        ¬ 0x80000000#32 < 0x80000000#32) := by decide
theorem test_witness_Ham2418SentinelUnambiguous :
    answerAtReset (.ham2418 0xFF#8 0xFF#8 0xFF#8) = some (.triplet 0xFF#8 0xFF#8 0xFF#8) ∧
      answerAtReset (.ham2418 0x74#8 0x7F#8 0xFF#8) =
        some (.triplet 0x3F#8 0x3F#8 0x3F#8) := by decide
theorem test_witness_EncoderSetsEveryTestOdd :
    (dataPositions[0]? = some 3 ∧ dataPositions[17]? = some 23) ∧
      (∀ test ∈ protectionTests, oddAt test.2 0x24B42F#24 = true) ∧
      ∀ kp ∈ dataPositions.zipIdx,
        (0x24B42F#24).getLsbD (kp.1 - 1) = (0x12345#18).getLsbD kp.2 := by decide
theorem test_witness_SyndromeReportsFailedTests :
    (protectionTests[0]?.isSome ∧ protectionTests[5]?.isSome) ∧
      enc2418 0x12345#18 ^^^ (1#24 <<< (1 - 1)) = 0x24B42E#24 ∧
      enc2418 0x12345#18 ^^^ (1#24 <<< (23 - 1)) = 0x64B42F#24 ∧
      enc2418 0x12345#18 ^^^ (1#24 <<< (24 - 1)) = 0xA4B42F#24 := by decide +kernel
theorem test_witness_OddparKeepsOddReplacesEven :
    popcount 0xC8#8 % 2 = 1 ∧ popcount 0xC9#8 % 2 = 0 ∧ (0x00#8).toNat ≤ 0x7F ∧
      (0x7F#8).toNat ≤ 0x7F ∧ 0 < 8 ∧ 7 < 8 ∧ 0 ≠ 7 := by decide
theorem test_witness_FramePacketsAreLawful :
    4 ≤ [0x55#8, 0xE4#8, 0x02#8, 0x15#8].length ∧
      [0x55#8, 0xE4#8, 0x02#8, 0x15#8].drop 1 = [0x00#8, 0xE4#8, 0x02#8, 0x15#8].drop 1 := by decide
-- F16, F9 and F6: address bytes that give each packet number at a boundary of a clause.
theorem test_witness_FrameClassifiesByNumber :
    (tHam84 0x02#8).toNat / 8 ||| 2 * (tHam84 0x15#8).toNat = 0 ∧
      (tHam84 0xC7#8).toNat / 8 ||| 2 * (tHam84 0x15#8).toNat = 1 ∧
      (tHam84 0xC7#8).toNat / 8 ||| 2 * (tHam84 0x9B#8).toNat = 23 ∧
      (tHam84 0x02#8).toNat / 8 ||| 2 * (tHam84 0xA1#8).toNat = 24 ∧
      (tHam84 0xC7#8).toNat / 8 ||| 2 * (tHam84 0xA1#8).toNat = 25 ∧
      (tHam84 0x02#8).toNat / 8 ||| 2 * (tHam84 0xB6#8).toNat = 26 ∧
      (tHam84 0xC7#8).toNat / 8 ||| 2 * (tHam84 0xB6#8).toNat = 27 ∧
      (tHam84 0x02#8).toNat / 8 ||| 2 * (tHam84 0xFD#8).toNat = 28 ∧
      (tHam84 0xC7#8).toNat / 8 ||| 2 * (tHam84 0xFD#8).toNat = 29 ∧
      ((tHam84 0x15#8).toNat / 8 ||| 2 * (tHam84 0xEA#8).toNat = 30 ∧
        (framePacket ⟨0xE4#8, 0x15#8, 0xEA#8, []⟩).magazine = some 8) ∧
      ((tHam84 0x5E#8).toNat / 8 ||| 2 * (tHam84 0xEA#8).toNat = 30 ∧
        (framePacket ⟨0xE4#8, 0x5E#8, 0xEA#8, []⟩).magazine ≠ some 8) ∧
      (tHam84 0xC7#8).toNat / 8 ||| 2 * (tHam84 0xEA#8).toNat = 31 := by decide
theorem test_witness_FrameRejectsNumbersAbove31 :
    (tHam84 0xC7#8).toNat / 8 ||| 2 * (tHam84 0xEA#8).toNat = 31 ∧
      (tHam84 0x02#8).toNat / 8 ||| 2 * (tHam84 0x01#8).toNat = 510 ∧
      (tHam84 0xC7#8).toNat / 8 ||| 2 * (tHam84 0x01#8).toNat = 511 ∧
      tHam84 0x01#8 = 0xFF#8 := by decide
theorem test_witness_FrameMagazineRemap :
    (tHam84 0x15#8).toNat % 8 = 0 ∧ (tHam84 0x02#8).toNat % 8 = 1 ∧
      (tHam84 0x2F#8).toNat % 8 = 7 ∧ tHam84 0x01#8 = 0xFF#8 := by decide
theorem test_witness_FrameFramingCodeOnlySetsError :
    (0xE5#8 : Byte) ≠ 0xE4#8 ∧ (0xE4#8 : Byte) = 0xE4#8 := by decide
theorem test_witness_FrameCopiesPayload :
    4 ≤ [0x00#8, 0xE4#8, 0x02#8, 0x15#8].length ∧
      [0x00#8, 0xE4#8, 0x02#8, 0x15#8].length = 4 := by decide
theorem test_witness_FrameRefusesShortLines :
    [0x00#8, 0xE4#8, 0x02#8].length < 4 ∧ ([] : List Byte).length < 4 ∧
      4 ≤ [0x00#8, 0xE4#8, 0x02#8, 0x15#8].length := by decide
theorem test_witness_ReservedSelectsRefused :
    5 ≤ (5#3).toNat ∧ 5 ≤ (7#3).toNat := by decide
theorem test_witness_UndecodableRequestsRefused :
    decode ⟨5#3, [0x15#8]⟩ = .error (.reservedSelect 5#3) ∧
      decode ⟨0#3, []⟩ = .error (.operandLength 0#3 0) ∧
      decode ⟨3#3, [0x15#8, 0x15#8]⟩ = .error (.operandLength 3#3 2) ∧
      decode ⟨1#3, [0x15#8, 0x15#8]⟩ = .error (.operandLength 1#3 2) ∧
      decode ⟨1#3, [0x15#8, 0x15#8, 0x15#8, 0x15#8]⟩ = .error (.operandLength 1#3 4) ∧
      decode ⟨4#3, [0x00#8, 0xE4#8, 0x02#8]⟩ = .error (.lineTooShort 3) ∧
      ([] : List Request).length + 1 ≤ 1 := by decide
theorem test_witness_DecodeInvertsEncode :
    Instr.wf (.frame [0x00#8, 0xE4#8, 0x02#8, 0x15#8]) = true ∧
      Instr.wf (.ham84 0x15#8) = true := by decide
theorem test_witness_EncodeInvertsDecode :
    decode ⟨1#3, [0x2F#8, 0xB4#8, 0x24#8]⟩ = .ok (.ham2418 0x2F#8 0xB4#8 0x24#8) := by decide
theorem test_witness_FlatWordsRoundTrip :
    requestOfFlatB1 0b111_11111111#11 = ⟨7#3, [0xFF#8]⟩ ∧
      requestOfFlatB3 0b001_00100100_10110100_00101111#27 =
        ⟨1#3, [0x2F#8, 0xB4#8, 0x24#8]⟩ := by decide
theorem test_witness_StepKeepsInvariant :
    sampleState.Inv ∧ ∃ t, step sampleState = .next t := ⟨sampleState_inv, _, rfl⟩
theorem test_witness_FirstRequestServedLikeAnyOther :
    decode ⟨3#3, [0xE4#8]⟩ = .ok (.rev8 0xE4#8) := by decide
theorem test_witness_DeliveredResponsesNeverChange : ∃ t, step sampleState = .next t := ⟨_, rfl⟩
theorem test_witness_ExecOnlyDeliversOneResponse :
    ∃ t, exec (.frame [0x00#8, 0xE4#8, 0x02#8, 0x15#8]) sampleState = .next t := ⟨_, rfl⟩
theorem test_witness_ResponseIgnoresHistory :
    (∃ t, exec (.rev8 0xE4#8) sampleState = .next t) ∧
      ∃ why, exec (.frame [0x00#8]) sampleState = .refused why := ⟨⟨_, rfl⟩, _, rfl⟩
theorem test_witness_AdmittedRequestsAlwaysAnswered :
    (∀ r ∈ sampleState.requests, admitted r = true) ∧ sampleState.nextEvent ≠ .reset ∧
      sampleState.requests ≠ [] := by decide
theorem test_witness_OperationsMatchClosedForms :
    Instr.wf (.frame [0x00#8, 0xE4#8, 0x02#8, 0x15#8]) = true ∧
      Instr.wf (.ham2418 0x00#8 0x00#8 0x00#8) = true := by decide
theorem test_witness_ResponsesSameInAnyOrder :
    (∀ r ∈ sampleState.requests, admitted r = true) ∧ Event.reset ∉ sampleState.schedule := by decide
theorem test_witness_PortEncodingKeepsPackets :
    Packet.lawful ⟨0xE4#8, some 8, some 30, .broadcastServiceData, false, []⟩ ∧
      Packet.lawful ⟨0x00#8, some 1, none, .unspecified, true, []⟩ := by
  refine ⟨⟨⟨8, rfl, by decide, by decide⟩, ?_, ?_, ?_⟩, ⟨⟨1, rfl, by decide, by decide⟩, ?_, ?_, ?_⟩⟩ <;>
    simp

end Sys2Proof.Machine
end

section
/-! Proofs about the scope of the block (00_scope.md R6, R7): what a step is, by the event it meets and
the request that event takes. -/

namespace Sys2Proof.Machine

/-- The step that serves a request: `step` by what its event takes and what that request decodes to. -/
theorem step_eq_exec_of_takeRequest {s s' : State} {place : Nat} {r : Request} {i : Instr}
    (event : s.nextEvent = .serve place) (taken : s.takeRequest place = some (r, s'))
    (decoded : decode r = .ok i) : step s = exec i s' := by
  simp only [step, event, taken, decoded]

/-- The step that finds nothing to serve. -/
theorem step_eq_idle_of_no_requests {s : State} {place : Nat}
    (event : s.nextEvent = .serve place) (none_in_progress : s.requests = []) :
    step s = .next s.idle := by
  have taken : s.takeRequest place = none := (s.takeRequest_eq_none_iff place).2 none_in_progress
  simp only [step, event, taken]

/-- Settles O1: the three forms of the schedule differ only in which request `takeRequest` takes. -/
theorem stepExecutesServedRequest : Obligations.StepExecutesServedRequest := by
  intro before after r i events done decoded
  refine ⟨?namedPlace, ?emptySchedule, fun place untaken => ?untakenPlace⟩
  case namedPlace =>
    exact step_eq_exec_of_takeRequest (State.nextEvent_cons _ _ _ rfl)
      (State.takeRequest_at_place before after r _ events done) decoded
  case emptySchedule =>
    exact step_eq_exec_of_takeRequest (State.nextEvent_nil _ rfl)
      (State.takeRequest_oldest after r [] done 0 (.inl rfl)) decoded
  case untakenPlace =>
    exact step_eq_exec_of_takeRequest (State.nextEvent_cons _ _ _ rfl)
      (State.takeRequest_oldest after r (.serve place :: events) done place (.inr untaken)) decoded

/-- Settles O40: the idle step, with an event to pass and with none. -/
theorem idleStepChangesNoResponse : Obligations.IdleStepChangesNoResponse := by
  intro place events done
  constructor
  · exact step_eq_idle_of_no_requests (State.nextEvent_cons _ _ _ rfl) rfl
  · exact step_eq_idle_of_no_requests (State.nextEvent_nil _ rfl) rfl

end Sys2Proof.Machine
end

section
/-! Proofs about the architectural state (10_state.md): what is delivered stays (R29), a response is
a function of its request alone (R20), and the tables give the closed forms beside them (R25). -/

namespace Sys2Proof.Machine

/-! ## The response of each instruction -/

theorem answers_iff_exec_eq_deliver {i : Instr} {s : State} {r : Response} :
    Answers i s r ↔ exec i s = .next (s.deliver i r) := Iff.rfl

theorem answers_ham84 (b : Byte) (s : State) : Answers (.ham84 b) s (.byte (tHam84 b)) := rfl

theorem answers_ham2418 (t0 t1 t2 : Byte) (s : State) :
    Answers (.ham2418 t0 t1 t2) s (decodeTriplet t0 t1 t2) := rfl

theorem answers_oddpar (b : Byte) (s : State) :
    Answers (.oddpar b) s (.byte (decodeParity b)) := rfl

theorem answers_rev8 (b : Byte) (s : State) : Answers (.rev8 b) s (.byte (tRev b)) := rfl

theorem answers_frame_of_lineFields {buf : List Byte} {line : LineFields}
    (fields : lineFields buf = some line) (s : State) :
    Answers (.frame buf) s (.packet (framePacket line)) := by
  rw [answers_iff_exec_eq_deliver, exec, execFrame, fields]

theorem answers_frame (b0 fc x1 x2 : Byte) (data : List Byte) (s : State) :
    Answers (.frame (b0 :: fc :: x1 :: x2 :: data)) s (.packet (framePacket ⟨fc, x1, x2, data⟩)) :=
  answers_frame_of_lineFields (lineFields_of_four b0 fc x1 x2 data) s

theorem exec_frame_of_lineFields_none {buf : List Byte} (fields : lineFields buf = none)
    (s : State) : exec (.frame buf) s = .refused (.lineTooShort buf.length) := by
  rw [exec, execFrame, fields]

/-- No meaning reads the state: an instruction is answered alike everywhere or refused alike
everywhere. -/
theorem answers_or_refused_in_every_state (i : Instr) :
    (∃ r : Response, ∀ s : State, Answers i s r) ∨
      ∃ why : Refusal, ∀ s : State, exec i s = .refused why := by
  cases i with
  | ham84 b => exact .inl ⟨_, answers_ham84 b⟩
  | ham2418 t0 t1 t2 => exact .inl ⟨_, answers_ham2418 t0 t1 t2⟩
  | oddpar b => exact .inl ⟨_, answers_oddpar b⟩
  | rev8 b => exact .inl ⟨_, answers_rev8 b⟩
  | frame buf =>
    cases fields : lineFields buf with
    | some line => exact .inl ⟨_, answers_frame_of_lineFields fields⟩
    | none => exact .inr ⟨_, exec_frame_of_lineFields_none fields⟩

/-- What `exec` did when it gave a next state: it delivered the one response the instruction has in
every state. -/
theorem exec_next_eq_deliver {i : Instr} {s t : State} (executed : exec i s = .next t) :
    ∃ r : Response, t = s.deliver i r ∧ ∀ s' : State, Answers i s' r := by
  obtain ⟨r, answers⟩ | ⟨why, refused⟩ := answers_or_refused_in_every_state i
  · have delivered : exec i s = .next (s.deliver i r) := answers s
    exact ⟨r, Host.Outcome.next.inj (executed.symm.trans delivered), answers⟩
  · simp [refused s] at executed

/-- Settles O43: a response, or a refusal, seen in one state is the one of every state. -/
theorem responseIgnoresHistory : Obligations.ResponseIgnoresHistory := by
  constructor
  · intro i s t executed
    obtain ⟨r, rfl, answers⟩ := exec_next_eq_deliver executed
    exact ⟨r, State.deliver_delivered s i r, answers⟩
  · intro i s why refusedHere s'
    obtain ⟨r, answers⟩ | ⟨why', refused⟩ := answers_or_refused_in_every_state i
    · have delivered : exec i s = .next (s.deliver i r) := answers s
      simp [delivered] at refusedHere
    · rw [refused s', ← refused s, refusedHere]

/-! ## The record of responses -/

/-- An instruction the decoder makes of an operation and an operand has that operation and that
operand.  The arm of FRAME is the one that also tests a length. -/
theorem op_operand_of_instrOf {op : Op} {sel : BitVec 3} {operand : List Byte} {i : Instr}
    (h : instrOf op sel operand = .ok i) : i.op = op ∧ i.operand = operand := by
  unfold instrOf at h
  split at h
  case h_5 =>
    split at h
    · cases h
      exact ⟨rfl, rfl⟩
    · cases h
  all_goals cases h
  all_goals exact ⟨rfl, rfl⟩

/-- A request that decodes is the encoding of its instruction. -/
theorem encode_of_decode {r : Request} {i : Instr} (decoded : decode r = .ok i) : encode i = r := by
  unfold decode at decoded
  cases hrow : rowOfSelect r.op with
  | none => simp [hrow] at decoded
  | some row =>
    simp only [hrow] at decoded
    obtain ⟨sameOp, sameOperand⟩ := op_operand_of_instrOf decoded
    obtain ⟨-, sameSelect⟩ := rowOfSelect_select r.op row hrow
    rw [encode, sameOp, sameSelect, sameOperand]

/-- Settles O41: a reset and an idle step deliver nothing, and a served request, which was in
progress, delivers its one response. -/
theorem deliveredResponsesNeverChange : Obligations.DeliveredResponsesNeverChange := by
  intro s t stepped
  obtain ⟨-, rfl⟩ | ⟨-, -, -, rfl⟩ | ⟨place, r, s', i, -, taken, decoded, executed⟩ :=
    step_next_cases s t stepped
  · exact ⟨[], by simp⟩
  · exact ⟨[], by simp⟩
  · obtain ⟨stood, rfl⟩ := (s.takeRequest_eq_some_iff s' place r).1 taken
    obtain ⟨resp, rfl, -⟩ := exec_next_eq_deliver executed
    refine ⟨[⟨i, resp⟩], rfl, by simp, ?_⟩
    have inProgress : r ∈ s.requests := List.mem_of_getElem? stood
    simpa [encode_of_decode decoded] using inProgress

/-- Settles O36: nothing has been delivered. -/
theorem invariantHoldsAtReset : Obligations.InvariantHoldsAtReset := by
  intro d delivered
  exact absurd delivered List.not_mem_nil

end Sys2Proof.Machine
end

section
/-! The tables against the formulas beside them (10_state.md R25), entry by entry, and HAM2418
against its closed form (41_hamming2418.md R110). -/

namespace Sys2Proof.Machine

/-! ## The tables -/

theorem tHam84_eq_ham84ByTests : ∀ b : Byte, tHam84 b = ham84ByTests b := by decide

theorem tPar0_eq_par0ByFormula : ∀ b : Byte, tPar0 b = par0ByFormula b := by decide

theorem tPar1_eq_par1ByFormula : ∀ b : Byte, tPar1 b = par1ByFormula b := by decide

theorem tPar2_eq_par2ByFormula : ∀ b : Byte, tPar2 b = par2ByFormula b := by decide

theorem tErr_eq_errByFormula : ∀ syn : BitVec 6, tErr syn = errByFormula syn := by decide

theorem tRev_eq_revByFormula : ∀ b : Byte, tRev b = revByFormula b := by decide

/-- A value of `T_HAM84` is the sentinel or a nibble (R93). -/
theorem tHam84_eq_sentinel_or_nibble :
    ∀ b : Byte, tHam84 b = sentinelByte ∨ (tHam84 b).toNat < 16 := by decide

/-! ## The bytes of a codeword -/

/-- Byte `k` of the triplet is bits `8k` to `8k + 7` of the codeword. -/
theorem codewordOf_getLsbD (t0 t1 t2 : Byte) (j : Nat) :
    (codewordOf t0 t1 t2).getLsbD j =
      if j < 8 then t0.getLsbD j
      else if j < 16 then t1.getLsbD (j - 8) else t2.getLsbD (j - 16) := by
  have appended : (codewordOf t0 t1 t2).getLsbD j =
      if j < 8 then t0.getLsbD j else (t2 ++ t1).getLsbD (j - 8) := BitVec.getLsbD_append
  rw [appended, BitVec.getLsbD_append, Nat.sub_sub]
  by_cases inByte0 : j < 8
  · rw [if_pos inByte0, if_pos inByte0]
  · rw [if_neg inByte0, if_neg inByte0]
    simp only [show j - 8 < 8 ↔ j < 16 by omega]

theorem codewordOf_extract_byte0 (t0 t1 t2 : Byte) {start len : Nat} (inside : start + len ≤ 8) :
    (codewordOf t0 t1 t2).extractLsb' start len = t0.extractLsb' start len := by
  refine BitVec.eq_of_getLsbD_eq fun i hi => ?_
  simp [codewordOf_getLsbD, hi, show start + i < 8 by omega]

theorem codewordOf_extract_byte1 (t0 t1 t2 : Byte) {start len : Nat} (inside : start + len ≤ 8) :
    (codewordOf t0 t1 t2).extractLsb' (8 + start) len = t1.extractLsb' start len := by
  refine BitVec.eq_of_getLsbD_eq fun i hi => ?_
  simp [codewordOf_getLsbD, hi, Nat.add_assoc, show 8 + (start + i) < 16 by omega]

theorem codewordOf_extract_byte2 (t0 t1 t2 : Byte) {start len : Nat} :
    (codewordOf t0 t1 t2).extractLsb' (16 + start) len = t2.extractLsb' start len := by
  refine BitVec.eq_of_getLsbD_eq fun i hi => ?_
  simp [codewordOf_getLsbD, hi, Nat.add_assoc, show ¬ 16 + (start + i) < 8 by omega]

/-! ## The syndrome -/

/-- The exclusive-or of the weights `w(i + base)` of the first `n` bits that are set. -/
def xorWeights (bit : Nat → Bool) (base : Nat) : Nat → BitVec 6
  | 0 => 0#6
  | n + 1 => xorWeights bit base n ^^^ if bit n then positionWeight (n + base) else 0#6

/-- The fold of R104 and R110 is `xorWeights`, whatever value it starts from. -/
theorem foldl_range_eq_xorWeights (bit : Nat → Bool) (base n : Nat) (start : BitVec 6) :
    (List.range n).foldl
        (fun acc i => if bit i then acc ^^^ positionWeight (i + base) else acc) start =
      start ^^^ xorWeights bit base n := by
  induction n with
  | zero => simp [xorWeights]
  | succ n ih =>
    rw [List.range_succ, List.foldl_append, ih]
    cases h : bit n <;> simp [xorWeights, h, BitVec.xor_assoc]

theorem xorOfWeights_eq_xorWeights (base : Nat) (b : Byte) :
    xorOfWeights base b = xorWeights b.getLsbD base 8 :=
  (foldl_range_eq_xorWeights b.getLsbD base 8 0#6).trans (BitVec.zero_xor)

theorem syndromeOf_eq_xorWeights (w : BitVec 24) :
    syndromeOf w = 0x3F#6 ^^^ xorWeights w.getLsbD 1 24 :=
  foldl_range_eq_xorWeights w.getLsbD 1 24 0x3F#6

theorem xorWeights_add (bit : Nat → Bool) (base m n : Nat) :
    xorWeights bit base (m + n) =
      xorWeights bit base m ^^^ xorWeights (fun i => bit (m + i)) (m + base) n := by
  induction n with
  | zero => simp [xorWeights]
  | succ n ih =>
    rw [← Nat.add_assoc, xorWeights, xorWeights, ih, BitVec.xor_assoc,
      show m + n + base = n + (m + base) by omega]

theorem xorWeights_congr {bit bit' : Nat → Bool} (base n : Nat) (same : ∀ i < n, bit i = bit' i) :
    xorWeights bit base n = xorWeights bit' base n := by
  induction n with
  | zero => rfl
  | succ n ih =>
    rw [xorWeights, xorWeights, ih fun i hi => same i (by omega), same n (by omega)]

/-- The syndrome of a codeword is the sum of the three bytes' parity-table formulas: byte `k` of the
triplet holds positions `8k + 1` to `8k + 8` (R104, R110). -/
theorem syndromeOf_codewordOf (t0 t1 t2 : Byte) :
    syndromeOf (codewordOf t0 t1 t2) =
      par0ByFormula t0 ^^^ par1ByFormula t1 ^^^ par2ByFormula t2 := by
  have byte0 : xorWeights (codewordOf t0 t1 t2).getLsbD 1 8 = xorOfWeights 1 t0 := by
    rw [xorOfWeights_eq_xorWeights]
    refine xorWeights_congr 1 8 fun i hi => ?_
    rw [codewordOf_getLsbD, if_pos hi]
  have byte1 : xorWeights (fun i => (codewordOf t0 t1 t2).getLsbD (8 + i)) 9 8 =
      xorOfWeights 9 t1 := by
    rw [xorOfWeights_eq_xorWeights]
    refine xorWeights_congr 9 8 fun i hi => ?_
    rw [codewordOf_getLsbD, if_neg (by omega), if_pos (by omega), Nat.add_sub_cancel_left]
  have byte2 : xorWeights (fun i => (codewordOf t0 t1 t2).getLsbD (16 + i)) 17 8 =
      xorOfWeights 17 t2 := by
    rw [xorOfWeights_eq_xorWeights]
    refine xorWeights_congr 17 8 fun i hi => ?_
    rw [codewordOf_getLsbD, if_neg (by omega), if_neg (by omega), Nat.add_sub_cancel_left]
  have bytes : xorWeights (codewordOf t0 t1 t2).getLsbD 1 (8 + 8 + 8) =
      xorOfWeights 1 t0 ^^^ xorOfWeights 9 t1 ^^^ xorOfWeights 17 t2 := by
    rw [xorWeights_add, xorWeights_add, byte0, byte1, byte2]
  rw [syndromeOf_eq_xorWeights, bytes, par0ByFormula, par1ByFormula, par2ByFormula]
  ac_rfl

/-- The syndrome of the tables is the syndrome of the closed form. -/
theorem syndrome_eq_syndromeOf (t0 t1 t2 : Byte) :
    syndrome t0 t1 t2 = syndromeOf (codewordOf t0 t1 t2) := by
  rw [syndrome, syndromeOf_codewordOf, tPar0_eq_par0ByFormula, tPar1_eq_par1ByFormula,
    tPar2_eq_par2ByFormula]

/-! ## The data bits -/

/-- `T_D1D4` takes data bits D1 to D4 from the first byte (R102). -/
theorem tD1D4_eq_data_of_byte0 : ∀ t0 : Byte,
    ((tD1D4 ((t0 >>> 2).setWidth 6)).setWidth 18).setWidth 32 =
      (t0.extractLsb' 2 1).setWidth 32 ||| ((t0.extractLsb' 4 3).setWidth 32 <<< 1) := by
  decide

theorem masked_eq_data_of_byte1 : ∀ t1 : Byte,
    ((t1 &&& 0x7F#8).setWidth 18 <<< 4).setWidth 32 = (t1.extractLsb' 0 7).setWidth 32 <<< 4 := by
  decide

theorem masked_eq_data_of_byte2 : ∀ t2 : Byte,
    ((t2 &&& 0x7F#8).setWidth 18 <<< 11).setWidth 32 = (t2.extractLsb' 0 7).setWidth 32 <<< 11 := by
  decide

/-- The operand assembly of R101 gives the data bits of the codeword. -/
theorem raw18_eq_dataOf (t0 t1 t2 : Byte) :
    (raw18 t0 t1 t2).setWidth 32 = dataOf (codewordOf t0 t1 t2) := by
  rw [dataOf, codewordOf_extract_byte0 t0 t1 t2 (by decide : 2 + 1 ≤ 8),
    codewordOf_extract_byte0 t0 t1 t2 (by decide : 4 + 3 ≤ 8),
    codewordOf_extract_byte1 t0 t1 t2 (by decide : 0 + 7 ≤ 8),
    codewordOf_extract_byte2 t0 t1 t2 (start := 0) (len := 7),
    ← tD1D4_eq_data_of_byte0, ← masked_eq_data_of_byte1, ← masked_eq_data_of_byte2,
    raw18, BitVec.setWidth_or, BitVec.setWidth_or]

/-! ## The correction -/

/-- The unsigned test of R106 reads the flag bit alone. -/
theorem correctionSucceeded_eq_not_msb (res32 : BitVec 32) :
    correctionSucceeded res32 = !res32.msb := by
  rw [BitVec.msb_eq_decide, ← decide_not]
  exact decide_eq_decide.2 Nat.not_le.symm

/-- The raw value has 18 bits, so whether the correction succeeds is the mask's flag bit. -/
theorem correctionSucceeded_corrected (t0 t1 t2 : Byte) :
    correctionSucceeded (corrected t0 t1 t2) = !(tErr (syndrome t0 t1 t2)).msb := by
  have raw_msb : ((raw18 t0 t1 t2).setWidth 32).msb = false := by simp [BitVec.msb_setWidth]
  rw [correctionSucceeded_eq_not_msb, corrected, BitVec.msb_xor, raw_msb, Bool.false_xor]

theorem positionMask_msb : ∀ p < 24, (positionMask p).msb = false := by decide

/-- The four steps of HAM2418 give the closed form, by R110's split of the syndrome: none wrong,
uncorrectable, or one wrong position. -/
theorem decodeTriplet_eq_ham2418ByFormula (t0 t1 t2 : Byte) :
    decodeTriplet t0 t1 t2 = ham2418ByFormula (codewordOf t0 t1 t2) := by
  have mask : tErr (syndrome t0 t1 t2) = errByFormula (syndromeOf (codewordOf t0 t1 t2)) := by
    rw [tErr_eq_errByFormula, syndrome_eq_syndromeOf]
  have value : corrected t0 t1 t2 =
      dataOf (codewordOf t0 t1 t2) ^^^ errByFormula (syndromeOf (codewordOf t0 t1 t2)) := by
    rw [corrected, mask, raw18_eq_dataOf]
  rw [decodeTriplet, correctionSucceeded_corrected, mask, value, ham2418ByFormula]
  generalize syndromeOf (codewordOf t0 t1 t2) = syn
  have bound : syn.toNat < 64 := syn.isLt
  by_cases zero : syn.toNat = 0
  · simp [errByFormula, zero]
  by_cases bad : syn.toNat < 0x20 ∨ 0x38 ≤ syn.toNat
  · have flagged : errByFormula syn = uncorrectableMask := by
      rcases bad with low | high
      · simp [errByFormula, zero, low]
      · simp [errByFormula, zero, high]
    have flag_msb : uncorrectableMask.msb = true := by decide
    simp [flagged, flag_msb, zero, bad]
  · have located : errByFormula syn = positionMask (syn.toNat % 32) := by
      rw [errByFormula, if_neg zero, if_neg (by omega), if_neg (by omega),
        show syn.toNat - 0x20 = syn.toNat % 32 by omega]
    have unflagged := positionMask_msb (syn.toNat % 32) (by omega)
    simp [located, unflagged, zero, bad]

end Sys2Proof.Machine
end

section
/-! FRAME: the seven steps against the closed form of R139 and R140, and the closed forms of all
five operations (10_state.md R25). -/

namespace Sys2Proof.Machine

/-! ## The Packet of the seven steps -/

/-- The branch of R143 is dead: a 3-bit field is at most 7. -/
theorem magazineOutOfRange_eq_false (field : BitVec 3) : magazineOutOfRange field = false := by
  have below : field.toNat < 8 := field.isLt
  rw [magazineOutOfRange, decide_eq_false_iff_not]
  omega

theorem magazineOf_magazineField (address1 : Byte) :
    magazineOf (magazineField address1) = some (magazineOfNibble address1.toNat) := by
  have zero_iff : magazineField address1 = 0#3 ↔ address1.toNat % 8 = 0 := by
    rw [← magazineField_toNat, ← BitVec.toNat_inj, BitVec.toNat_ofNat, Nat.zero_mod]
  simp only [magazineOf, magazineOutOfRange_eq_false, zero_iff, magazineField_toNat,
    magazineOfNibble, apply_ite some, Bool.false_eq_true, if_false]

/-- The seven steps run: each field of the Packet by the decoded address values and the untruncated
packet number. -/
theorem framePacket_eq (line : LineFields) :
    framePacket line =
      { framingCode := line.framing
        magazine := some (magazineOfNibble (tHam84 line.addr1).toNat)
        number := numberOf (packetNumber (tHam84 line.addr1) (tHam84 line.addr2))
        type := classify (packetNumber (tHam84 line.addr1) (tHam84 line.addr2))
          (some (magazineOfNibble (tHam84 line.addr1).toNat))
        decodingError := framingWrong line.framing ||
          numberOutOfRange (packetNumber (tHam84 line.addr1) (tHam84 line.addr2))
        data := line.payload } := by
  rw [← magazineOf_magazineField]
  simp [framePacket, frameStep7, frameStep6, frameStep5, frameStep4, frameStep3, frameStep2,
    frameStep1, FrameRun.start, raiseError, magazineOutOfRange_eq_false]

/-! ## The packet number by what the address bytes decode to -/

/-- The two parts of the number overlap in no bit when the first address byte decodes. -/
theorem packetNumber_of_nibble {address1 : Byte} (nibble : address1.toNat < 16) (address2 : Byte) :
    packetNumber address1 address2 = address1.toNat / 8 + 2 * address2.toNat := by
  have high : address1.toNat / 2 ^ 3 < 2 ^ 1 := by omega
  rw [packetNumber, Nat.shiftRight_eq_div_pow, Nat.or_comm, ← Nat.shiftLeft_add_eq_or_of_lt high,
    Nat.shiftLeft_eq]
  omega

/-- An undecodable first address byte alone gives number 31 (R140). -/
theorem packetNumber_sentinel_nibble {address2 : Byte} (nibble : address2.toNat < 16) :
    packetNumber sentinelByte address2 = 31 := by
  have all : ∀ n < 16, 31 ||| n <<< 1 = 31 := by decide
  exact all address2.toNat nibble

/-- An undecodable second address byte gives a number out of range (R135). -/
theorem packetNumber_sentinel_gt (address1 : Byte) : 31 < packetNumber address1 sentinelByte := by
  have shifted : (510 : Nat) ≤ packetNumber address1 sentinelByte := Nat.right_le_or
  omega

theorem numberOutOfRange_eq_true {num : Nat} (above : 31 < num) : numberOutOfRange num = true :=
  decide_eq_true above

theorem numberOutOfRange_eq_false {num : Nat} (within : num ≤ 31) : numberOutOfRange num = false :=
  decide_eq_false (Nat.not_lt.2 within)

theorem numberOf_eq_none {num : Nat} (above : 31 < num) : numberOf num = none := by
  rw [numberOf, numberOutOfRange_eq_true above, if_pos rfl]

theorem numberOf_eq_some {num : Nat} (within : num ≤ 31) : numberOf num = some num := by
  rw [numberOf, numberOutOfRange_eq_false within, if_neg Bool.false_ne_true]

theorem classify_eq_unspecified {num : Nat} (above : 31 ≤ num) (magazine : Option Nat) :
    classify num magazine = .unspecified := by
  unfold classify
  repeat rw [if_neg (by omega)]

/-! ## The rows of R140 -/

theorem ne_sentinel_of_nibble {value : Byte} (nibble : value.toNat < 16) :
    value ≠ sentinelByte := by
  rintro rfl
  exact absurd nibble (by decide)

/-- The sentinel's low three bits are all set: magazine 7 (R132). -/
theorem magazineOfNibble_sentinel : magazineOfNibble sentinelByte.toNat = 7 := by decide

/-- The Packet of the seven steps is the one of the four rows of R140. -/
theorem framePacket_eq_packetByOutcome (line : LineFields) :
    framePacket line =
      packetByOutcome line.framing (tHam84 line.addr1) (tHam84 line.addr2) line.payload := by
  have decoded1 := tHam84_eq_sentinel_or_nibble line.addr1
  have decoded2 := tHam84_eq_sentinel_or_nibble line.addr2
  rw [framePacket_eq]
  generalize tHam84 line.addr1 = address1 at decoded1 ⊢
  generalize tHam84 line.addr2 = address2 at decoded2 ⊢
  obtain rfl | nibble2 := decoded2
  · have above := packetNumber_sentinel_gt address1
    have remap : some (magazineOfNibble address1.toNat) =
        if address1 = sentinelByte then some 7 else some (magazineOfNibble address1.toNat) := by
      split_ifs with undecodable
      · rw [undecodable, magazineOfNibble_sentinel]
      · rfl
    simp [packetByOutcome, framingWrong, numberOf_eq_none above, numberOutOfRange_eq_true above,
      classify_eq_unspecified above.le, ← remap]
  obtain rfl | nibble1 := decoded1
  · simp [packetByOutcome, framingWrong, packetNumber_sentinel_nibble nibble2,
      magazineOfNibble_sentinel, ne_sentinel_of_nibble nibble2, numberOf_eq_some,
      numberOutOfRange_eq_false, classify_eq_unspecified]
  · have within : address1.toNat / 8 + 2 * address2.toNat ≤ 31 := by omega
    simp [packetByOutcome, framingWrong, packetNumber_of_nibble nibble1,
      ne_sentinel_of_nibble nibble1, ne_sentinel_of_nibble nibble2, numberOf_eq_some within,
      numberOutOfRange_eq_false within]

/-! ## The closed forms -/

theorem decodeParity_eq (b : Byte) :
    decodeParity b = if parity b = 1 then b &&& 0x7F#8 else 0x20#8 := by
  simp [decodeParity, oddParityHolds, parityData, paritySubstitute]

/-- Settles O45: each operation's tables and steps were shown above to give its closed form, and a
well-formed FRAME operand has the four bytes its closed form reads. -/
theorem operationsMatchClosedForms : Obligations.OperationsMatchClosedForms := by
  intro i s wf
  cases i with
  | ham84 b => exact ⟨_, rfl, tHam84_eq_ham84ByTests b ▸ answers_ham84 b s⟩
  | ham2418 t0 t1 t2 =>
    exact ⟨_, rfl, decodeTriplet_eq_ham2418ByFormula t0 t1 t2 ▸ answers_ham2418 t0 t1 t2 s⟩
  | oddpar b => exact ⟨_, rfl, decodeParity_eq b ▸ answers_oddpar b s⟩
  | rev8 b => exact ⟨_, rfl, tRev_eq_revByFormula b ▸ answers_rev8 b s⟩
  | frame buf =>
    obtain ⟨b0, fc, x1, x2, data, rfl⟩ := (four_le_length_iff buf).1 (of_decide_eq_true wf)
    refine ⟨_, rfl, ?_⟩
    rw [← tHam84_eq_ham84ByTests x1, ← tHam84_eq_ham84ByTests x2,
      ← framePacket_eq_packetByOutcome ⟨fc, x1, x2, data⟩]
    exact answers_frame b0 fc x1 x2 data s

end Sys2Proof.Machine
end

section
/-! Proofs about operands and ownership (20_memory.md): an operation stores nothing but its response
(R46), and the order in which requests in progress are served changes no response (R48). -/

namespace Sys2Proof.Machine

/-! ## The frame of `exec` -/

/-- Settles O42: a next state of `exec` is its first state with one response delivered. -/
theorem execOnlyDeliversOneResponse : Obligations.ExecOnlyDeliversOneResponse := by
  intro i s t executed
  obtain ⟨r, rfl, -⟩ := exec_next_eq_deliver executed
  exact ⟨State.deliver_requests s i r, State.deliver_schedule s i r, r,
    State.deliver_delivered s i r⟩

/-! ## Admitted requests -/

/-- An operand that the format of an operation admits makes a well-formed instruction. -/
theorem instrOf_eq_ok_of_admits {op : Op} {operand : List Byte}
    (admits : op.format.admits operand.length = true) (sel : BitVec 3) :
    ∃ i, instrOf op sel operand = .ok i ∧ i.wf = true := by
  cases op with
  | ham2418 =>
    obtain ⟨t0, t1, t2, rfl⟩ := List.length_eq_three.1 (beq_iff_eq.1 admits)
    exact ⟨.ham2418 t0 t1 t2, rfl, rfl⟩
  | frame => exact ⟨.frame operand, if_pos (of_decide_eq_true admits), admits⟩
  | _ =>
    obtain ⟨b, rfl⟩ := List.length_eq_one_iff.1 (beq_iff_eq.1 admits)
    exact ⟨_, rfl, rfl⟩

/-- An admitted request decodes to a well-formed instruction. -/
theorem decode_eq_ok_of_admitted {r : Request} (adm : admitted r = true) :
    ∃ i, decode r = .ok i ∧ i.wf = true := by
  unfold admitted at adm
  cases hrow : rowOfSelect r.op with
  | none => simp [hrow] at adm
  | some row =>
    obtain ⟨inTable, -⟩ := rowOfSelect_select r.op row hrow
    obtain ⟨sameFormat, -⟩ := opcodeTable_rows_agree row inTable
    simp only [hrow, sameFormat] at adm
    simpa only [decode, hrow] using instrOf_eq_ok_of_admits adm r.op

/-- An admitted request decodes to an instruction that every state answers with the response the
request gets alone. -/
theorem transactionOf_of_admitted {r : Request} (adm : admitted r = true) :
    ∃ i resp, decode r = .ok i ∧ transactionOf r = some ⟨i, resp⟩ ∧ ∀ s, Answers i s resp := by
  obtain ⟨i, decoded, wf⟩ := decode_eq_ok_of_admitted adm
  obtain ⟨resp, closed, answersAtReset⟩ := operationsMatchClosedForms i State.reset wf
  refine ⟨i, resp, decoded, by simp [transactionOf, decoded, closed], fun s => ?_⟩
  obtain ⟨resp', closed', answers⟩ := operationsMatchClosedForms i s wf
  obtain rfl : resp = resp' := Option.some.inj (closed.symm.trans closed')
  exact answers

/-! ## Serving requests in any order -/

theorem State.nextEvent_eq_serve_of_no_reset {s : State} (noReset : Event.reset ∉ s.schedule) :
    ∃ place, s.nextEvent = .serve place := by
  cases event : s.nextEvent with
  | serve place => exact ⟨place, rfl⟩
  | reset =>
    cases schedule : s.schedule with
    | nil => simp [s.nextEvent_nil schedule] at event
    | cons e es =>
      rw [s.nextEvent_cons e es schedule] at event
      exact absurd (by simp [schedule, event]) noReset

/-- While requests are in progress, every place takes one of them and leaves the others. -/
theorem State.takeRequest_of_requests_ne_nil {s : State} (inProgress : s.requests ≠ [])
    (place : Nat) : ∃ r rest, s.requests.Perm (r :: rest) ∧
      s.takeRequest place = some (r, ⟨rest, s.schedule.tail, s.delivered⟩) := by
  cases taken : s.takeRequest place with
  | none => exact absurd ((s.takeRequest_eq_none_iff place).1 taken) inProgress
  | some served =>
    obtain ⟨r, s'⟩ := served
    obtain ⟨stood, rfl⟩ := (s.takeRequest_eq_some_iff s' place r).1 taken
    obtain ⟨inRange, rfl⟩ := List.getElem?_eq_some_iff.1 stood
    exact ⟨_, _, (List.getElem_cons_eraseIdx_perm inRange).symm, rfl⟩

/-- One step among admitted requests: one of them leaves, and what it gets alone is delivered. -/
theorem step_serves_admitted {s : State} {place : Nat} (event : s.nextEvent = .serve place)
    (adm : ∀ r ∈ s.requests, admitted r = true) (inProgress : s.requests ≠ []) :
    ∃ r rest d, s.requests.Perm (r :: rest) ∧ transactionOf r = some d ∧
      step s = .next ⟨rest, s.schedule.tail, s.delivered ++ [d]⟩ := by
  obtain ⟨r, rest, perm, taken⟩ := State.takeRequest_of_requests_ne_nil inProgress place
  obtain ⟨i, resp, decoded, alone, answers⟩ :=
    transactionOf_of_admitted (adm r (perm.mem_iff.2 List.mem_cons_self))
  refine ⟨r, rest, ⟨i, resp⟩, perm, alone, ?_⟩
  rw [step_eq_exec_of_takeRequest event taken decoded]
  exact answers _

theorem runSteps_succ_of_step {s t : State} (stepped : step s = .next t) (n : Nat) :
    runSteps (n + 1) s = runSteps n t := by
  rw [runSteps, stepped]

/-- Settles O46, by induction on the number of requests in progress: the first step serves one of
them, and the hypotheses hold of the others and of the rest of the schedule. -/
theorem responsesSameInAnyOrder : Obligations.ResponsesSameInAnyOrder := by
  intro s adm noReset
  induction count : s.requests.length generalizing s with
  | zero =>
    have noneLeft : s.requests = [] := List.eq_nil_of_length_eq_zero count
    exact ⟨s, [], rfl, noneLeft, by simp, by simp [noneLeft]⟩
  | succ n ih =>
    obtain ⟨place, event⟩ := State.nextEvent_eq_serve_of_no_reset noReset
    obtain ⟨r, rest, d, perm, alone, stepped⟩ :=
      step_serves_admitted event adm (List.ne_nil_of_length_eq_add_one count)
    have admRest : ∀ r' ∈ rest, admitted r' = true :=
      fun r' inRest => adm r' (perm.mem_iff.2 (List.mem_cons_of_mem r inRest))
    have countRest : rest.length = n := by
      have oneMore : s.requests.length = rest.length + 1 := perm.length_eq
      omega
    obtain ⟨t, new, ran, served, delivered, same⟩ :=
      ih ⟨rest, s.schedule.tail, s.delivered ++ [d]⟩ admRest
        (fun later => noReset (List.mem_of_mem_tail later)) countRest
    refine ⟨t, d :: new, (runSteps_succ_of_step stepped n).trans ran, served, ?record, ?responses⟩
    case record => rw [delivered, List.append_assoc, List.singleton_append]
    case responses =>
      rw [List.map_cons, ← alone]
      exact (same.cons _).trans (perm.map transactionOf).symm

end Sys2Proof.Machine
end

section
/-! Proofs about requests (30_encoding.md R60 to R63): the decoder and the encoder invert each other,
which requests decode, what serving one that does not decode gives, and the flat words. -/

namespace Sys2Proof.Machine

/-! ## The decoder as the inverse of the encoder -/

/-- What `instrOf` makes, once for both directions; FRAME's arm is the one that tests a length. -/
theorem instrOf_eq_ok_iff {op : Op} {sel : BitVec 3} {operand : List Byte} {i : Instr} :
    instrOf op sel operand = .ok i ↔ i.op = op ∧ i.operand = operand ∧ i.wf = true := by
  constructor
  · intro made
    obtain ⟨rfl, rfl⟩ := op_operand_of_instrOf made
    refine ⟨rfl, rfl, ?_⟩
    cases i with
    | frame buf =>
      by_cases long : Config.minLineLen ≤ buf.length
      · exact decide_eq_true long
      · simp [instrOf, Instr.op, Instr.operand, long] at made
    | _ => rfl
  · rintro ⟨rfl, rfl, wf⟩
    cases i with
    | frame buf => exact if_pos (of_decide_eq_true wf)
    | _ => rfl

theorem decode_encode {i : Instr} (wf : i.wf = true) : decode (encode i) = .ok i := by
  obtain ⟨row, matched, sameOp, -⟩ := rowOfSelect_of_op i.op
  simp only [decode, encode, matched]
  exact instrOf_eq_ok_iff.2 ⟨sameOp.symm, rfl, wf⟩

theorem wf_of_decode {r : Request} {i : Instr} (decoded : decode r = .ok i) : i.wf = true := by
  unfold decode at decoded
  cases hrow : rowOfSelect r.op with
  | none => simp [hrow] at decoded
  | some row =>
    simp only [hrow] at decoded
    obtain ⟨-, -, wf⟩ := instrOf_eq_ok_iff.1 decoded
    exact wf

/-- The requests that decode are the encodings of the well-formed instructions. -/
theorem decode_eq_ok_iff {r : Request} {i : Instr} :
    decode r = .ok i ↔ i.wf = true ∧ encode i = r :=
  ⟨fun decoded => ⟨wf_of_decode decoded, encode_of_decode decoded⟩,
    fun ⟨wf, encoded⟩ => encoded ▸ decode_encode wf⟩

/-- Settles O32: the encoder's select matches the row of the operation, and the operand has the
length that row's format asks for. -/
theorem decodeInvertsEncode : Obligations.DecodeInvertsEncode :=
  fun _ wf => decode_encode wf

/-- Settles O33: the decoder answers with well-formed instructions only, and keeps the select and
the operand. -/
theorem encodeInvertsDecode : Obligations.EncodeInvertsDecode :=
  fun _ _ decoded => decode_eq_ok_iff.1 decoded

theorem admitted_of_select {r : Request} (op : Op) (select : r.op = op.select)
    (admits : op.format.admits r.operand.length = true) : admitted r = true := by
  obtain ⟨row, matched, -, sameFormat⟩ := rowOfSelect_of_op op
  simp only [admitted, select, matched, sameFormat, admits]

/-- Settles O31: one way by the instruction whose encoding the request is, the other because each of
the listed requests is admitted. -/
theorem decodableRequestsAreTheAdmitted : Obligations.DecodableRequestsAreTheAdmitted := by
  rintro ⟨op, operand⟩
  constructor
  · rintro ⟨i, decoded⟩
    obtain ⟨wf, encoded⟩ := decode_eq_ok_iff.1 decoded
    obtain ⟨rfl, rfl⟩ := Request.mk.inj encoded
    cases i with
    | ham84 b => exact .inl ⟨.inl rfl, rfl⟩
    | ham2418 t0 t1 t2 => exact .inr (.inl ⟨rfl, rfl⟩)
    | oddpar b => exact .inl ⟨.inr (.inl rfl), rfl⟩
    | rev8 b => exact .inl ⟨.inr (.inr rfl), rfl⟩
    | frame buf => exact .inr (.inr ⟨rfl, of_decide_eq_true wf⟩)
  · intro listed
    have adm : admitted ⟨op, operand⟩ = true := by
      obtain ⟨rfl | rfl | rfl, one⟩ | ⟨rfl, three⟩ | ⟨rfl, four⟩ := listed
      · exact admitted_of_select .ham84 rfl (beq_iff_eq.2 one)
      · exact admitted_of_select .oddpar rfl (beq_iff_eq.2 one)
      · exact admitted_of_select .rev8 rfl (beq_iff_eq.2 one)
      · exact admitted_of_select .ham2418 rfl (beq_iff_eq.2 three)
      · exact admitted_of_select .frame rfl (decide_eq_true four)
    obtain ⟨i, decoded, -⟩ := decode_eq_ok_of_admitted adm
    exact ⟨i, decoded⟩

/-! ## Requests that do not decode -/

/-- The refusing case of `step`, beside `step_eq_exec_of_takeRequest`. -/
theorem step_eq_refused_of_takeRequest {s s' : State} {place : Nat} {r : Request} {e : DecodeError}
    (event : s.nextEvent = .serve place) (taken : s.takeRequest place = some (r, s'))
    (undecodable : decode r = .error e) : step s = .refused (refusalOf e) := by
  simp only [step, event, taken, undecodable]

/-- A request that does not decode is refused wherever it is served: at a named place, under an
empty schedule and for a place that is not taken. -/
theorem refusedWhenServed_of_decode_eq_error {r : Request} {e : DecodeError}
    (undecodable : decode r = .error e) : RefusedWhenServed r (refusalOf e) := by
  intro before after events done
  refine ⟨?namedPlace, ?emptySchedule, fun place untaken => ?untakenPlace⟩
  case namedPlace =>
    exact step_eq_refused_of_takeRequest (State.nextEvent_cons _ _ _ rfl)
      (State.takeRequest_at_place before after r _ events done) undecodable
  case emptySchedule =>
    exact step_eq_refused_of_takeRequest (State.nextEvent_nil _ rfl)
      (State.takeRequest_oldest after r [] done 0 (.inl rfl)) undecodable
  case untakenPlace =>
    exact step_eq_refused_of_takeRequest (State.nextEvent_cons _ _ _ rfl)
      (State.takeRequest_oldest after r (.serve place :: events) done place (.inr untaken))
      undecodable

theorem rowOfSelect_eq_none_iff :
    ∀ op : BitVec 3, rowOfSelect op = none ↔ op = 5#3 ∨ op = 6#3 ∨ op = 7#3 := by decide

theorem rowOfSelect_eq_none_of_five_le : ∀ op : BitVec 3, 5 ≤ op.toNat → rowOfSelect op = none := by
  decide

theorem decode_eq_error_of_reserved {r : Request} (reserved : rowOfSelect r.op = none) :
    decode r = .error (.reservedSelect r.op) := by
  rw [decode, reserved]

/-- Settles O30: a reserved select matches no row of the map, so its request does not decode. -/
theorem reservedSelectsRefused : Obligations.ReservedSelectsRefused := by
  refine ⟨fun r reserved => ?_, rowOfSelect_eq_none_iff⟩
  have undecodable := decode_eq_error_of_reserved (rowOfSelect_eq_none_of_five_le r.op reserved)
  exact refusedWhenServed_of_decode_eq_error undecodable

/-- Settles O35: the five requests are encodings of well-formed instructions, and select 5 is
reserved. -/
theorem sampleRequestsDecode : Obligations.SampleRequestsDecode :=
  ⟨decode_encode (i := .ham84 _) rfl, decode_encode (i := .ham2418 _ _ _) rfl,
    decode_encode (i := .oddpar _) rfl, decode_encode (i := .rev8 _) rfl,
    decode_encode (i := .frame _) rfl, decode_eq_error_of_reserved rfl⟩

/-! ## Table words and flat words -/

theorem decode_tableRequest {nbits w : Nat} {i : Instr} (decoded : decodeTableWord nbits w = some i) :
    decode (tableRequest nbits w) = .ok i := by
  unfold decodeTableWord at decoded
  cases request : decode (tableRequest nbits w) with
  | ok i' =>
    rw [request] at decoded
    rw [Option.some.inj decoded]
  | error e => simp [request] at decoded

/-- Settles O2: the placed request is the oldest and the one the first event names, and taking it
gives back the state before the placing. -/
theorem fetchWordRunsDecodedInstruction : Obligations.FetchWordRunsDecodedInstruction := by
  intro s nbits w i decoded
  exact step_eq_exec_of_takeRequest (State.nextEvent_cons _ _ _ rfl)
    (State.takeRequest_oldest s.requests _ (.serve 0 :: s.schedule) s.delivered 0 (.inl rfl))
    (decode_tableRequest decoded)

theorem requestOfFlatB1_flatB1 (op : BitVec 3) (b : Byte) :
    requestOfFlatB1 (flatB1 op b) = ⟨op, [b]⟩ := by
  have select : (flatB1 op b).extractLsb' 8 3 = op := BitVec.extractLsb'_append_eq_left
  have byte : (flatB1 op b).extractLsb' 0 8 = b := BitVec.extractLsb'_append_eq_right
  rw [requestOfFlatB1, select, byte]

/-- A byte put in the lowest lane moves the fields above it up by 8. -/
theorem extractLsb'_above_byte {n : Nat} (x : BitVec n) (low : Byte) (start len : Nat) :
    (x ++ low).extractLsb' (8 + start) len = x.extractLsb' start len := by
  rw [BitVec.extractLsb'_append_eq_of_le (Nat.le_add_right 8 start), Nat.add_sub_cancel_left]

theorem requestOfFlatB3_flatB3 (op : BitVec 3) (t0 t1 t2 : Byte) :
    requestOfFlatB3 (flatB3 op t0 t1 t2) = ⟨op, [t0, t1, t2]⟩ := by
  have select : (flatB3 op t0 t1 t2).extractLsb' 24 3 = op :=
    (extractLsb'_above_byte _ t0 16 3).trans
      ((extractLsb'_above_byte _ t1 8 3).trans BitVec.extractLsb'_append_eq_left)
  have byte0 : (flatB3 op t0 t1 t2).extractLsb' 0 8 = t0 := BitVec.extractLsb'_append_eq_right
  have byte1 : (flatB3 op t0 t1 t2).extractLsb' 8 8 = t1 :=
    (extractLsb'_above_byte _ t0 0 8).trans BitVec.extractLsb'_append_eq_right
  have byte2 : (flatB3 op t0 t1 t2).extractLsb' 16 8 = t2 :=
    (extractLsb'_above_byte _ t0 8 8).trans
      ((extractLsb'_above_byte _ t1 0 8).trans BitVec.extractLsb'_append_eq_right)
  rw [requestOfFlatB3, select, byte0, byte1, byte2]

theorem flatB1_of_fields (w : BitVec 11) : flatB1 (w.extractLsb' 8 3) (w.extractLsb' 0 8) = w :=
  (BitVec.extractLsb'_append_extractLsb'_eq_extractLsb' rfl).trans BitVec.extractLsb'_eq_self

theorem flatB3_of_fields (w : BitVec 27) :
    flatB3 (w.extractLsb' 24 3) (w.extractLsb' 0 8) (w.extractLsb' 8 8) (w.extractLsb' 16 8) =
      w := by
  have top : w.extractLsb' 24 3 ++ w.extractLsb' 16 8 = w.extractLsb' 16 11 :=
    BitVec.extractLsb'_append_extractLsb'_eq_extractLsb' rfl
  have upper : w.extractLsb' 16 11 ++ w.extractLsb' 8 8 = w.extractLsb' 8 19 :=
    BitVec.extractLsb'_append_extractLsb'_eq_extractLsb' rfl
  rw [flatB3, top, upper]
  exact (BitVec.extractLsb'_append_extractLsb'_eq_extractLsb' rfl).trans BitVec.extractLsb'_eq_self

/-- Settles O34: the fields of a word built from fields are those fields, and a word is built from
its fields. -/
theorem flatWordsRoundTrip : Obligations.FlatWordsRoundTrip := by
  refine ⟨requestOfFlatB1_flatB1, requestOfFlatB3_flatB3, ?readB1, ?readB3⟩
  case readB1 =>
    intro w op b read
    simp only [requestOfFlatB1, Request.mk.injEq, List.cons.injEq, and_true] at read
    obtain ⟨rfl, rfl⟩ := read
    exact flatB1_of_fields w
  case readB3 =>
    intro w op t0 t1 t2 read
    simp only [requestOfFlatB3, Request.mk.injEq, List.cons.injEq, and_true] at read
    obtain ⟨rfl, rfl, rfl, rfl⟩ := read
    exact flatB3_of_fields w

end Sys2Proof.Machine
end

section
/-! Proofs about responses (30_encoding.md R64, R73, R74): every response has the shape and range of
its operation, and the port encoding of a Packet. -/

namespace Sys2Proof.Machine

/-! ## The shape and range of each response -/

theorem popcount_tRev : ∀ b : Byte, popcount (tRev b) = popcount b := by decide

theorem decodeParity_le (b : Byte) : (decodeParity b).toNat ≤ 0x7F := by
  rw [decodeParity]
  split
  · exact Nat.and_le_right
  · decide

/-- A 6-bit field, zero-extended to a byte, is at most 0x3F (R69). -/
theorem toNat_setWidth_six_le (field : BitVec 6) : (field.setWidth 8).toNat ≤ 0x3F := by
  rw [BitVec.toNat_setWidth_of_le (by decide)]
  exact Nat.le_of_lt_succ field.isLt

theorem decodeTriplet_sound (t0 t1 t2 : Byte) :
    Delivery.sound ⟨.ham2418 t0 t1 t2, decodeTriplet t0 t1 t2⟩ := by
  rw [decodeTriplet]
  split
  · exact .inl ⟨toNat_setWidth_six_le _, toNat_setWidth_six_le _, toNat_setWidth_six_le _⟩
  · exact .inr ⟨rfl, rfl, rfl⟩

theorem numberOf_eq_some_iff {num n : Nat} : numberOf num = some n ↔ num ≤ 31 ∧ num = n := by
  by_cases within : num ≤ 31
  · simp [numberOf_eq_some within, within]
  · simp [numberOf_eq_none (Nat.lt_of_not_le within), within]

theorem numberOutOfRange_of_numberOf_eq_none {num : Nat} (absent : numberOf num = none) :
    numberOutOfRange num = true := by
  by_contra within
  simp [numberOf, within] at absent

theorem magazineOfNibble_range (n : Nat) : 1 ≤ magazineOfNibble n ∧ magazineOfNibble n ≤ 8 := by
  rw [magazineOfNibble]
  split <;> omega

/-- BroadcastServiceData stands in one row of R134's table. -/
theorem of_classify_eq_broadcastServiceData {num : Nat} {magazine : Option Nat}
    (classified : classify num magazine = .broadcastServiceData) : num = 30 ∧ magazine = some 8 := by
  by_contra other
  unfold classify at classified
  rw [if_neg other] at classified
  split_ifs at classified

/-- The Packet of every line keeps the invariants of R144. -/
theorem framePacket_lawful (line : LineFields) : (framePacket line).lawful := by
  rw [framePacket_eq]
  refine ⟨⟨_, rfl, magazineOfNibble_range _⟩, ?numberRange, ?absentNumber, ?broadcast⟩
  case numberRange =>
    intro n present
    obtain ⟨within, rfl⟩ := numberOf_eq_some_iff.1 present
    exact within
  case absentNumber =>
    intro absent
    simp [numberOutOfRange_of_numberOf_eq_none absent]
  case broadcast =>
    intro classified
    obtain ⟨thirty, eight⟩ := of_classify_eq_broadcastServiceData classified
    exact ⟨numberOf_eq_some_iff.2 ⟨by omega, thirty⟩, eight⟩

theorem framePacket_sound (b0 fc x1 x2 : Byte) (data : List Byte) :
    Delivery.sound ⟨.frame (b0 :: fc :: x1 :: x2 :: data),
      .packet (framePacket ⟨fc, x1, x2, data⟩)⟩ := by
  refine ⟨?length, framePacket_lawful _, ?framingCode, ?payload⟩
  case length => simp
  case framingCode => simp [framePacket_eq]
  case payload => simp [framePacket_eq]

theorem Answers.unique {i : Instr} {s : State} {r r' : Response} (answer : Answers i s r)
    (answer' : Answers i s r') : r = r' := by
  have sameState := Host.Outcome.next.inj (answer.symm.trans answer')
  simpa using congrArg State.delivered sameState

/-- A shorter operand is refused (R142). -/
theorem four_le_length_of_answers_frame {buf : List Byte} {s : State} {r : Response}
    (answer : Answers (.frame buf) s r) : 4 ≤ buf.length := by
  by_contra short
  have fields : lineFields buf = none := (lineFields_eq_none_iff buf).2 (by omega)
  rw [answers_iff_exec_eq_deliver, exec_frame_of_lineFields_none fields] at answer
  cases answer

/-- Every response an instruction is answered with has the shape and range of R64. -/
theorem sound_of_answers {i : Instr} {s : State} {r : Response} (answer : Answers i s r) :
    Delivery.sound ⟨i, r⟩ := by
  cases i with
  | ham84 b =>
    obtain rfl := answer.unique (answers_ham84 b s)
    exact (tHam84_eq_sentinel_or_nibble b).symm.imp_left Nat.le_of_lt_succ
  | ham2418 t0 t1 t2 =>
    obtain rfl := answer.unique (answers_ham2418 t0 t1 t2 s)
    exact decodeTriplet_sound t0 t1 t2
  | oddpar b =>
    obtain rfl := answer.unique (answers_oddpar b s)
    exact decodeParity_le b
  | rev8 b =>
    obtain rfl := answer.unique (answers_rev8 b s)
    exact popcount_tRev b
  | frame buf =>
    obtain ⟨b0, fc, x1, x2, data, rfl⟩ :=
      (four_le_length_iff buf).1 (four_le_length_of_answers_frame answer)
    obtain rfl := answer.unique (answers_frame b0 fc x1 x2 data s)
    exact framePacket_sound b0 fc x1 x2 data

theorem State.Inv.deliver {s : State} (inv : s.Inv) {i : Instr} {r : Response}
    (sound : Delivery.sound ⟨i, r⟩) : (s.deliver i r).Inv := by
  intro d delivered
  rw [State.deliver_delivered, List.mem_append, List.mem_singleton] at delivered
  obtain earlier | rfl := delivered
  · exact inv d earlier
  · exact sound

/-- Settles O37: a reset and an idle step deliver nothing, and a served request delivers one
response, which is sound. -/
theorem stepKeepsInvariant : Obligations.StepKeepsInvariant := by
  intro s t inv stepped
  obtain ⟨-, rfl⟩ | ⟨-, -, -, rfl⟩ | ⟨place, r, s', i, -, taken, -, executed⟩ :=
    step_next_cases s t stepped
  · exact inv
  · exact inv
  · obtain ⟨-, rfl⟩ := (s.takeRequest_eq_some_iff s' place r).1 taken
    obtain ⟨resp, rfl, answers⟩ := exec_next_eq_deliver executed
    exact State.Inv.deliver inv (sound_of_answers (answers s))

/-! ## The port encoding of a Packet -/

theorem code_toNat_lt_ten (t : PacketType) : t.code.toNat < 10 := by
  cases t <;> decide

theorem packetTypeOfCode_code (t : PacketType) : packetTypeOfCode t.code = some t := by
  cases t <;> rfl

/-- Settles O48: the ten codes are the model's, and each is below 10. -/
theorem packetTypeCodes : Obligations.PacketTypeCodes :=
  ⟨rfl, rfl, rfl, rfl, rfl, rfl, rfl, rfl, rfl, rfl, code_toNat_lt_ten⟩

/-! One-bit fields of the port and the optionals beside them. -/

theorem bit_eq_one_iff (b : Bool) : (if b then 1#1 else 0#1) = 1#1 ↔ b = true := by
  cases b <;> decide

theorem bit_beq_one (b : Bool) : ((if b then 1#1 else 0#1) == 1#1) = b := by
  cases b <;> rfl

/-- The value beside a clear valid bit is 0 (R73). -/
theorem value_eq_zero_of_valid_clear (w : Nat) (value : Option Nat)
    (clear : (if value.isSome then 1#1 else 0#1) = 0#1) :
    BitVec.ofNat w (value.getD 0) = 0#w := by
  cases value with
  | none => rfl
  | some n => exact absurd clear (by simp)

/-- An optional number that its field is wide enough for is read back from the valid bit and the
field. -/
theorem optional_of_port {w : Nat} {value : Option Nat} (fits : ∀ n, value = some n → n < 2 ^ w) :
    (if (if value.isSome then 1#1 else 0#1) = 1#1
      then some (BitVec.ofNat w (value.getD 0)).toNat else none) = value := by
  cases value with
  | none => rfl
  | some n => simp [Nat.mod_eq_of_lt (fits n rfl)]

theorem Packet.toPacket_toPort {p : Packet} (lawful : p.lawful) : p.toPort.toPacket = some p := by
  obtain ⟨⟨m, present, -, atMost⟩, inRange, -, -⟩ := lawful
  have type : packetTypeOfCode p.toPort.type = some p.type := packetTypeOfCode_code p.type
  have magazine :
      (if p.toPort.magValid = 1#1 then some p.toPort.mag.toNat else none) = p.magazine :=
    optional_of_port fun n eq => by
      obtain rfl : m = n := Option.some.inj (present.symm.trans eq)
      omega
  have number : (if p.toPort.numValid = 1#1 then some p.toPort.num.toNat else none) = p.number :=
    optional_of_port fun n eq => Nat.lt_succ_of_le (inRange n eq)
  have error : (p.toPort.decodingError == 1#1) = p.decodingError := bit_beq_one p.decodingError
  simp only [PortPacket.toPacket, type, magazine, number, error]
  rfl

/-- Settles O47: on lawful Packets the magazine fits 4 bits and the number 5, so the reader gives
both back. -/
theorem portEncodingKeepsPackets : Obligations.PortEncodingKeepsPackets :=
  ⟨fun _ lawful => Packet.toPacket_toPort lawful, fun p =>
    ⟨bit_eq_one_iff p.magazine.isSome, value_eq_zero_of_valid_clear 4 p.magazine,
      bit_eq_one_iff p.number.isSome, value_eq_zero_of_valid_clear 5 p.number,
      bit_eq_one_iff p.decodingError, rfl, rfl, rfl, rfl⟩⟩

end Sys2Proof.Machine
end

section
/-! Proofs about HAM84 (40_hamming84.md R90 to R93).  R91's tests are sums of bits, so what an error
pattern does to the tests and to the parity is the same for every codeword: one wrong bit fails the
overall parity and is named by the tests (or is P4, which they do not read), two wrong bits keep the
parity and fail a test. -/

namespace Sys2Proof.Machine

/-! ## Parity, and bytes with few bits set -/

theorem countP_xor_mod_two {α : Type} (p q : α → Bool) (l : List α) :
    (l.countP fun x => p x ^^ q x) % 2 = (l.countP p + l.countP q) % 2 := by
  induction l with
  | nil => rfl
  | cons x xs ih => cases hp : p x <;> cases hq : q x <;> simp [hp, hq] <;> omega

theorem parity_xor {w : Nat} (a b : BitVec w) : parity (a ^^^ b) = (parity a + parity b) % 2 := by
  simp only [parity, popcount, BitVec.getLsbD_xor, countP_xor_mod_two]
  exact Nat.add_mod _ _ 2

theorem popcount_bit : ∀ i < 8, popcount (1#8 <<< i) = 1 := by decide

theorem parity_bit : ∀ i < 8, parity (1#8 <<< i) = 1 := by decide

theorem parity_flip (b : Byte) {i : Nat} (hi : i < 8) :
    parity (b ^^^ (1#8 <<< i)) = (parity b + 1) % 2 := by
  rw [parity_xor, parity_bit i hi]

theorem eq_zero_or_bit_of_popcount_le_one :
    ∀ e : Byte, popcount e ≤ 1 → e = 0#8 ∨ ∃ i < 8, e = 1#8 <<< i := by decide

theorem xor_xor_self_left {w : Nat} (a b : BitVec w) : a ^^^ (a ^^^ b) = b := by
  rw [← BitVec.xor_assoc, BitVec.xor_self, BitVec.zero_xor]

theorem xor_xor_self_right {w : Nat} (a b : BitVec w) : a ^^^ b ^^^ b = a := by
  rw [BitVec.xor_assoc, BitVec.xor_self, BitVec.xor_zero]

/-! ## The procedure of R91, branch by branch -/

theorem ham84ByTests_of_tests_pass {b : Byte} (pass : ham84WrongBit (ham84Tests b) = none) :
    ham84ByTests b = ham84Data b := by
  rw [ham84ByTests, pass]

theorem ham84ByTests_of_odd {b : Byte} (fail : ham84WrongBit (ham84Tests b) ≠ none)
    (odd : parity b = 1) : ham84ByTests b = sentinelByte := by
  obtain ⟨k, named⟩ := Option.ne_none_iff_exists'.1 fail
  simp only [ham84ByTests, named, odd, if_true]

theorem ham84ByTests_of_even {b : Byte} {k : Nat} (named : ham84WrongBit (ham84Tests b) = some k)
    (even : parity b ≠ 1) : ham84ByTests b = ham84Data (b ^^^ (1#8 <<< k)) := by
  simp only [ham84ByTests, named, if_neg even]

/-! ## Codewords with an error pattern -/

theorem ham84Tests_enc84 : ∀ v : BitVec 4, ham84Tests (enc84 v) = (true, true, true) := by decide

theorem parity_enc84 : ∀ v : BitVec 4, parity (enc84 v) = 1 := by decide

theorem ham84Data_enc84 : ∀ v : BitVec 4, ham84Data (enc84 v) = v.setWidth 8 := by decide

theorem ham84Data_flip_p4 (b : Byte) : ham84Data (b ^^^ (1#8 <<< 6)) = ham84Data b := by
  simp [ham84Data]

/-- A test is a sum of bits, so an error pattern changes it alike in all bytes that agree on it. -/
theorem ham84Tests_xor_congr {a b : Byte} (same : ham84Tests a = ham84Tests b) (e : Byte) :
    ham84Tests (a ^^^ e) = ham84Tests (b ^^^ e) := by
  have sum_xor (p q r t p' q' r' t' : Bool) :
      ((p ^^ p') ^^ (q ^^ q') ^^ (r ^^ r') ^^ (t ^^ t')) =
        ((p ^^ q ^^ r ^^ t) ^^ (p' ^^ q' ^^ r' ^^ t')) := by
    simp only [Bool.xor_assoc, Bool.xor_left_comm]
  simp only [ham84Tests, Prod.mk.injEq] at same
  obtain ⟨testA, testB, testC⟩ := same
  simp only [ham84Tests, BitVec.getLsbD_xor, sum_xor, testA, testB, testC]

theorem ham84Tests_enc84_xor (v : BitVec 4) (e : Byte) :
    ham84Tests (enc84 v ^^^ e) = ham84Tests (enc84 0#4 ^^^ e) :=
  ham84Tests_xor_congr ((ham84Tests_enc84 v).trans (ham84Tests_enc84 0#4).symm) e

/-- The tests name the flipped bit of codeword 0; they do not read P4, which is bit 6. -/
theorem ham84WrongBit_flip_enc84_zero : ∀ i < 8,
    ham84WrongBit (ham84Tests (enc84 0#4 ^^^ (1#8 <<< i))) = if i = 6 then none else some i := by
  decide

theorem ham84WrongBit_two_flips_enc84_zero : ∀ i < 8, ∀ j < 8, i ≠ j →
    ham84WrongBit (ham84Tests (enc84 0#4 ^^^ ((1#8 <<< i) ^^^ (1#8 <<< j)))) ≠ none := by
  decide

theorem ham84ByTests_enc84 (v : BitVec 4) : ham84ByTests (enc84 v) = v.setWidth 8 := by
  have pass : ham84WrongBit (ham84Tests (enc84 v)) = none := by
    rw [ham84Tests_enc84, ham84WrongBit]
  rw [ham84ByTests_of_tests_pass pass, ham84Data_enc84]

/-- One wrong bit is corrected: it is P4, which carries no data, or the bit the tests name. -/
theorem ham84ByTests_enc84_flip (v : BitVec 4) {i : Nat} (hi : i < 8) :
    ham84ByTests (enc84 v ^^^ (1#8 <<< i)) = v.setWidth 8 := by
  have named : ham84WrongBit (ham84Tests (enc84 v ^^^ (1#8 <<< i))) =
      if i = 6 then none else some i := by
    rw [ham84Tests_enc84_xor, ham84WrongBit_flip_enc84_zero i hi]
  by_cases p4 : i = 6
  · rw [if_pos p4] at named
    rw [ham84ByTests_of_tests_pass named, p4, ham84Data_flip_p4, ham84Data_enc84]
  · rw [if_neg p4] at named
    have even : parity (enc84 v ^^^ (1#8 <<< i)) ≠ 1 := by
      rw [parity_flip _ hi, parity_enc84]
      decide
    rw [ham84ByTests_of_even named even, xor_xor_self_right, ham84Data_enc84]

/-- Two wrong bits are detected: they keep the parity, and some test fails. -/
theorem ham84ByTests_enc84_two_flips (v : BitVec 4) {i j : Nat} (hi : i < 8) (hj : j < 8)
    (distinct : i ≠ j) :
    ham84ByTests (enc84 v ^^^ (1#8 <<< i) ^^^ (1#8 <<< j)) = sentinelByte := by
  have odd : parity (enc84 v ^^^ (1#8 <<< i) ^^^ (1#8 <<< j)) = 1 := by
    rw [parity_flip _ hj, parity_flip _ hi, parity_enc84]
  refine ham84ByTests_of_odd ?_ odd
  rw [BitVec.xor_assoc, ham84Tests_enc84_xor]
  exact ham84WrongBit_two_flips_enc84_zero i hi j hj distinct

/-! ## The nearest codeword -/

theorem ham84ByTests_of_near {b : Byte} {n : BitVec 4} (near : popcount (b ^^^ enc84 n) ≤ 1) :
    ham84ByTests b = n.setWidth 8 := by
  have b_eq : b = enc84 n ^^^ (b ^^^ enc84 n) := by
    rw [BitVec.xor_comm b, xor_xor_self_left]
  obtain none_wrong | ⟨i, hi, one_wrong⟩ := eq_zero_or_bit_of_popcount_le_one _ near
  · rw [b_eq, none_wrong, BitVec.xor_zero, ham84ByTests_enc84]
  · rw [b_eq, one_wrong, ham84ByTests_enc84_flip n hi]

/-- A byte whose tests A, B and C pass is the codeword of its data, or that with P4 wrong. -/
theorem enc84_ham84Data_of_tests_pass : ∀ b : Byte, ham84WrongBit (ham84Tests b) = none →
    enc84 ((ham84Data b).setWidth 4) = if parity b = 1 then b else b ^^^ (1#8 <<< 6) := by
  decide

theorem ham84WrongBit_lt : ∀ t, ∀ k ∈ ham84WrongBit t, k < 8 := by decide

theorem ham84Tests_pass_after_correction : ∀ b : Byte, ∀ k ∈ ham84WrongBit (ham84Tests b),
    ham84WrongBit (ham84Tests (b ^^^ (1#8 <<< k))) = none := by
  decide

/-- A byte that gets a nibble has a codeword within one bit. It is the byte with the named bit
flipped, or, when the tests name none, the byte itself with P4 put right. -/
theorem exists_near_of_ham84ByTests_ne_sentinel {b : Byte}
    (decoded : ham84ByTests b ≠ sentinelByte) : ∃ n : BitVec 4, popcount (b ^^^ enc84 n) ≤ 1 := by
  cases named : ham84WrongBit (ham84Tests b) with
  | none =>
    refine ⟨(ham84Data b).setWidth 4, ?_⟩
    rw [enc84_ham84Data_of_tests_pass b named]
    split
    · rw [BitVec.xor_self]
      decide
    · rw [xor_xor_self_left, popcount_bit 6 (by decide)]
  | some k =>
    have hk : k < 8 := ham84WrongBit_lt _ k named
    have even : parity b ≠ 1 := fun odd => decoded (ham84ByTests_of_odd (by simp [named]) odd)
    have odd_corrected : parity (b ^^^ (1#8 <<< k)) = 1 := by
      have zero : parity b = 0 := Nat.mod_two_ne_one.1 even
      rw [parity_flip b hk, zero]
    refine ⟨(ham84Data (b ^^^ (1#8 <<< k))).setWidth 4, ?_⟩
    rw [enc84_ham84Data_of_tests_pass _ (ham84Tests_pass_after_correction b k named),
      if_pos odd_corrected, xor_xor_self_left, popcount_bit k hk]

/-! ## The operation -/

theorem answers_ham84_of_ham84ByTests {b r : Byte} (value : ham84ByTests b = r) (s : State) :
    Answers (.ham84 b) s (.byte r) :=
  value ▸ tHam84_eq_ham84ByTests b ▸ answers_ham84 b s

/-- Settles O3: a byte within one bit of a codeword is corrected to it, and a byte that gets a
nibble has such a codeword. -/
theorem ham84AnswersNearestCodeword : Obligations.Ham84AnswersNearestCodeword := by
  intro b s
  refine ⟨answers_ham84_of_ham84ByTests rfl s,
    fun n near => answers_ham84_of_ham84ByTests (ham84ByTests_of_near near) s, fun far => ?_⟩
  refine answers_ham84_of_ham84ByTests (by_contra fun decoded => ?_) s
  obtain ⟨n, near⟩ := exists_near_of_ham84ByTests_ne_sentinel decoded
  exact absurd (far n) (Nat.not_le.2 (Nat.lt_succ_of_le near))

/-- Settles O4: the four properties of R93 in its order. -/
theorem ham84CorrectsOneDetectsTwo : Obligations.Ham84CorrectsOneDetectsTwo := by
  refine ⟨fun b s => ⟨tHam84 b, answers_ham84 b s, ?total⟩,
    fun v s => answers_ham84_of_ham84ByTests (ham84ByTests_enc84 v) s,
    fun v s _ hi => answers_ham84_of_ham84ByTests (ham84ByTests_enc84_flip v hi) s,
    fun v s _ _ hi hj distinct =>
      answers_ham84_of_ham84ByTests (ham84ByTests_enc84_two_flips v hi hj distinct) s⟩
  case total => exact (tHam84_eq_sentinel_or_nibble b).symm.imp_left Nat.le_of_lt_succ

/-! ## How often each value is an entry -/

theorem map_tHam84_range :
    (List.range 256).map (fun n => tHam84 (BitVec.ofNat 8 n)) = romHam84 := by
  refine List.ext_getElem (by simp [romHam84_length]) fun n _ hn => ?_
  have inByte : n < 2 ^ 8 := by rwa [romHam84_length] at hn
  rw [List.getElem_map, List.getElem_range, tHam84, BitVec.toNat_ofNat, Nat.mod_eq_of_lt inByte,
    List.getD_eq_getElem _ _ hn]

theorem countP_tHam84_eq (r : Byte) :
    ((List.range 256).countP fun n => tHam84 (BitVec.ofNat 8 n) == r) = romHam84.count r := by
  rw [← map_tHam84_range, List.count, List.countP_map]
  rfl

theorem count_sentinel_romHam84 : romHam84.count 0xFF#8 = 112 := by
  simp only [romHam84, List.count_append]
  decide

theorem count_nibble_romHam84 : ∀ v < 16, romHam84.count (BitVec.ofNat 8 v) = 9 := by
  simp only [romHam84, List.count_append]
  decide

/-- Settles O5 by counting in the literal of R92. -/
theorem ham84SentinelCount : Obligations.Ham84SentinelCount :=
  ⟨(countP_tHam84_eq 0xFF#8).trans count_sentinel_romHam84,
    fun v hv => (countP_tHam84_eq (BitVec.ofNat 8 v)).trans (count_nibble_romHam84 v hv)⟩

end Sys2Proof.Machine
end

section
/-! Proofs about the tables and the syndrome of HAM2418 (41_hamming2418.md R102 to R105).  A
syndrome is a sum of position weights over exclusive-or, so what an error pattern adds to it is the
same for every codeword. -/

namespace Sys2Proof.Machine

/-! ## The data and mask tables -/

theorem tD1D4_eq_d1d4ByFormula : ∀ i : BitVec 6, tD1D4 i = d1d4ByFormula i := by decide

theorem tD1D4_top_six_bits : ∀ b : Byte, tD1D4 ((b >>> 2).setWidth 6) =
    ofBits 4 [b.getLsbD 2, b.getLsbD 4, b.getLsbD 5, b.getLsbD 6] := by decide

/-- Settles O13, each table entry by entry. -/
theorem dataAndMaskTablesMatchFormulas : Obligations.DataAndMaskTablesMatchFormulas :=
  ⟨tD1D4_eq_d1d4ByFormula, tErr_eq_errByFormula, tRev_eq_revByFormula, tD1D4_top_six_bits⟩

/-! ## Sums of weights -/

theorem xorWeights_xor (p q : Nat → Bool) (base n : Nat) :
    xorWeights (fun i => p i ^^ q i) base n = xorWeights p base n ^^^ xorWeights q base n := by
  induction n with
  | zero => exact BitVec.xor_self.symm
  | succ n ih =>
    have bit : (if p n ^^ q n then positionWeight (n + base) else 0#6) =
        (if p n then positionWeight (n + base) else 0#6) ^^^
          if q n then positionWeight (n + base) else 0#6 := by
      cases p n <;> cases q n <;> simp
    rw [xorWeights, xorWeights, xorWeights, ih, bit]
    ac_rfl

theorem getLsbD_xor_eq_fun {w : Nat} (a b : BitVec w) :
    (a ^^^ b).getLsbD = fun i => a.getLsbD i ^^ b.getLsbD i :=
  funext fun _ => BitVec.getLsbD_xor

theorem xorOfWeights_xor (base : Nat) (a b : Byte) :
    xorOfWeights base (a ^^^ b) = xorOfWeights base a ^^^ xorOfWeights base b := by
  simp only [xorOfWeights_eq_xorWeights, getLsbD_xor_eq_fun, xorWeights_xor]

theorem syndromeOf_xor (w e : BitVec 24) :
    syndromeOf (w ^^^ e) = syndromeOf w ^^^ xorWeights e.getLsbD 1 24 := by
  rw [syndromeOf_eq_xorWeights, syndromeOf_eq_xorWeights, getLsbD_xor_eq_fun, xorWeights_xor,
    BitVec.xor_assoc]

theorem xorWeights_bit :
    ∀ k < 24, xorWeights (1#24 <<< k).getLsbD 1 24 = positionWeight (k + 1) := by
  decide

/-- A flipped bit adds the weight of its position to the syndrome. -/
theorem syndromeOf_flip (w : BitVec 24) {k : Nat} (hk : k < 24) :
    syndromeOf (w ^^^ (1#24 <<< k)) = syndromeOf w ^^^ positionWeight (k + 1) := by
  rw [syndromeOf_xor, xorWeights_bit k hk]

/-! ## The parity tables -/

/-- A table that is a sum of weights and a constant is affine; its constant is entry 0. -/
theorem affine_of_eq_xorOfWeights {table : Byte → BitVec 6} {c : BitVec 6} {base : Nat}
    (formula : ∀ b, table b = c ^^^ xorOfWeights base b) (a b : Byte) :
    table (a ^^^ b) = table a ^^^ table b ^^^ table 0#8 := by
  have zero : xorOfWeights base 0#8 = 0#6 := by
    simpa using xorOfWeights_xor base 0#8 0#8
  calc table (a ^^^ b) = c ^^^ xorOfWeights base a ^^^ xorOfWeights base b := by
        rw [formula, xorOfWeights_xor, BitVec.xor_assoc]
    _ = c ^^^ xorOfWeights base a ^^^ xorOfWeights base b ^^^ c ^^^ c :=
        (xor_xor_self_right _ c).symm
    _ = table a ^^^ table b ^^^ table 0#8 := by
        rw [formula, formula, formula, zero, BitVec.xor_zero]
        ac_rfl

theorem tPar0_eq_zero_xor (b : Byte) : tPar0 b = 0#6 ^^^ xorOfWeights 1 b :=
  (tPar0_eq_par0ByFormula b).trans BitVec.zero_xor.symm

theorem tPar1_eq_zero_xor (b : Byte) : tPar1 b = 0#6 ^^^ xorOfWeights 9 b :=
  (tPar1_eq_par1ByFormula b).trans BitVec.zero_xor.symm

/-- Settles O12: the entries equal the formulas, and the formulas are affine. -/
theorem parityTablesAreAffine : Obligations.ParityTablesAreAffine :=
  ⟨fun b => ⟨tPar0_eq_par0ByFormula b, tPar1_eq_par1ByFormula b, tPar2_eq_par2ByFormula b⟩,
    fun a b => ⟨affine_of_eq_xorOfWeights tPar0_eq_zero_xor a b,
      affine_of_eq_xorOfWeights tPar1_eq_zero_xor a b,
      affine_of_eq_xorOfWeights tPar2_eq_par2ByFormula a b⟩,
    rfl, rfl, rfl⟩

end Sys2Proof.Machine
end

section
/-! Proofs about the six parity tests and the reference encoder (41_hamming2418.md R103, R108,
R111).  Bit `k` of the syndrome sums the bits at the positions whose weight has bit `k`, which are
the positions of test `k`; the encoder's protection bits make each of these sums odd. -/

namespace Sys2Proof.Machine

/-! ## Sums of bits at positions -/

theorem foldl_xor_eq_oddAt (w : BitVec 24) (positions : List Nat) (start : Bool) :
    positions.foldl (fun acc p => acc ^^ w.getLsbD (p - 1)) start =
      (start ^^ oddAt positions w) := by
  induction positions generalizing start with
  | nil => exact (Bool.xor_false start).symm
  | cons p positions ih =>
    rw [oddAt, List.foldl_cons, List.foldl_cons, ih, ih, Bool.false_xor, Bool.xor_assoc]

theorem oddAt_cons (p : Nat) (positions : List Nat) (w : BitVec 24) :
    oddAt (p :: positions) w = (w.getLsbD (p - 1) ^^ oddAt positions w) := by
  rw [oddAt, List.foldl_cons, foldl_xor_eq_oddAt, Bool.false_xor]

theorem oddAt_append_singleton (positions : List Nat) (p : Nat) (w : BitVec 24) :
    oddAt (positions ++ [p]) w = (oddAt positions w ^^ w.getLsbD (p - 1)) := by
  rw [oddAt, List.foldl_append]
  rfl

theorem oddAt_erase {p : Nat} {positions : List Nat} (read : p ∈ positions) (w : BitVec 24) :
    oddAt positions w = (w.getLsbD (p - 1) ^^ oddAt (positions.erase p) w) := by
  induction positions with
  | nil => cases read
  | cons q positions ih =>
    by_cases first : q = p
    · rw [first, List.erase_cons_head, oddAt_cons]
    · have later : p ∈ positions := (List.mem_cons.1 read).resolve_left (Ne.symm first)
      rw [List.erase_cons_tail (by simpa using first), oddAt_cons, oddAt_cons, ih later,
        Bool.xor_left_comm]

theorem oddAt_congr {positions : List Nat} {w w' : BitVec 24}
    (same : ∀ p ∈ positions, w.getLsbD (p - 1) = w'.getLsbD (p - 1)) :
    oddAt positions w = oddAt positions w' := by
  induction positions with
  | nil => rfl
  | cons p positions ih =>
    rw [oddAt_cons, oddAt_cons, same p List.mem_cons_self,
      ih fun q later => same q (List.mem_cons_of_mem p later)]

/-! ## The syndrome's bits are the tests -/

/-- The positions of 1 to `n` whose weight has bit `k` set. -/
def weightedPositions (k n : Nat) : List Nat :=
  ((List.range n).map (· + 1)).filter fun p => (positionWeight p).getLsbD k

theorem xorWeights_getLsbD (w : BitVec 24) (k n : Nat) :
    (xorWeights w.getLsbD 1 n).getLsbD k = oddAt (weightedPositions k n) w := by
  induction n with
  | zero => simp [xorWeights, weightedPositions, oddAt]
  | succ n ih =>
    rw [xorWeights, BitVec.getLsbD_xor, ih]
    cases weighted : (positionWeight (n + 1)).getLsbD k
    · have same : weightedPositions k (n + 1) = weightedPositions k n := by
        simp [weightedPositions, List.range_succ, weighted]
      cases w.getLsbD n <;> simp [same, weighted]
    · have more : weightedPositions k (n + 1) = weightedPositions k n ++ [n + 1] := by
        simp [weightedPositions, List.range_succ, weighted]
      rw [more, oddAt_append_singleton, Nat.add_sub_cancel]
      cases w.getLsbD n <;> simp [weighted]

theorem protectionTests_eq_weightedPositions : ∀ k < 6,
    (protectionTests[k]?).map Prod.snd = some (weightedPositions k 24) := by
  decide

/-- The constant `0x3F` makes a syndrome bit say that its test fails (R103). -/
theorem syndromeOf_getLsbD (w : BitVec 24) {k : Nat} {test : Nat × List Nat}
    (isTest : protectionTests[k]? = some test) :
    (syndromeOf w).getLsbD k = !oddAt test.2 w := by
  obtain ⟨inRange, -⟩ := List.getElem?_eq_some_iff.1 isTest
  have positions := protectionTests_eq_weightedPositions k inRange
  rw [isTest, Option.map_some, Option.some.injEq] at positions
  have inverted : ∀ k < 6, (0x3F#6).getLsbD k = true := by decide
  rw [syndromeOf_eq_xorWeights, BitVec.getLsbD_xor, xorWeights_getLsbD, positions,
    inverted k inRange, Bool.true_xor]

theorem syndromeOf_eq_zero_of_tests_odd {w : BitVec 24}
    (odd : ∀ test ∈ protectionTests, oddAt test.2 w = true) : syndromeOf w = 0#6 := by
  refine BitVec.eq_of_getLsbD_eq fun k hk => ?_
  have isTest : protectionTests[k]? = some protectionTests[k] := List.getElem?_eq_getElem hk
  rw [syndromeOf_getLsbD w isTest, odd _ (List.getElem_mem hk), BitVec.getLsbD_zero, Bool.not_true]

/-! ## A codeword is determined by its data bits and its tests -/

theorem oddAt_test {test : Nat × List Nat} (isTest : test ∈ protectionTests) (w : BitVec 24) :
    oddAt test.2 w = (w.getLsbD (test.1 - 1) ^^ oddAt (test.2.erase test.1) w) := by
  have read : ∀ test ∈ protectionTests, test.1 ∈ test.2 := by decide
  exact oddAt_erase (read test isTest) w

theorem protection_bit_eq_of_others_eq {w w' : BitVec 24} {test : Nat × List Nat}
    (isTest : test ∈ protectionTests) (same : oddAt test.2 w = oddAt test.2 w')
    (others : ∀ p ∈ test.2.erase test.1, w.getLsbD (p - 1) = w'.getLsbD (p - 1)) :
    w.getLsbD (test.1 - 1) = w'.getLsbD (test.1 - 1) := by
  rw [oddAt_test isTest, oddAt_test isTest, oddAt_congr others] at same
  exact Bool.xor_left_inj.1 same

/-- `P1` to `P5` are fixed by the data bits alone, and then `P6` by all 23 bits below it (R111). -/
theorem codeword_eq_of_data_and_tests {w w' : BitVec 24}
    (data : ∀ p ∈ dataPositions, w.getLsbD (p - 1) = w'.getLsbD (p - 1))
    (tests : ∀ test ∈ protectionTests, oddAt test.2 w = oddAt test.2 w') : w = w' := by
  have readData :
      ∀ test ∈ protectionTests.take 5, ∀ p ∈ test.2.erase test.1, p ∈ dataPositions := by decide
  have p1_to_p5 : ∀ test ∈ protectionTests.take 5,
      w.getLsbD (test.1 - 1) = w'.getLsbD (test.1 - 1) := fun test inFive =>
    have isTest := List.mem_of_mem_take inFive
    protection_bit_eq_of_others_eq isTest (tests test isTest) fun p other =>
      data p (readData test inFive p other)
  have positions : ∀ j < 23,
      j + 1 ∈ dataPositions ∨ ∃ test ∈ protectionTests.take 5, test.1 = j + 1 := by decide
  have below : ∀ j < 23, w.getLsbD j = w'.getLsbD j := by
    intro j hj
    obtain isData | ⟨test, inFive, place⟩ := positions j hj
    · exact data (j + 1) isData
    · simpa [place] using p1_to_p5 test inFive
  have isTest : (24, (List.range 24).map (· + 1)) ∈ protectionTests := by decide
  have readBelow : ∀ p ∈ ((List.range 24).map (· + 1)).erase 24, p - 1 < 23 := by decide
  have p6 : w.getLsbD 23 = w'.getLsbD 23 :=
    protection_bit_eq_of_others_eq isTest (tests _ isTest) fun p other =>
      below (p - 1) (readBelow p other)
  refine BitVec.eq_of_getLsbD_eq fun j hj => ?_
  obtain low | rfl : j < 23 ∨ j = 23 := by omega
  · exact below j low
  · exact p6

/-! ## The encoder -/

theorem ofBits_getElem (w : Nat) (bs : List Bool) (i : Nat) (h : i < w) :
    (ofBits w bs)[i] = bs.getD i false := by
  rw [← BitVec.getLsbD_eq_getElem, ofBits_getLsbD, decide_eq_true h, Bool.true_and]

theorem enc2418_getLsbD_data {v : BitVec 18} {k p : Nat} (isData : dataPositions[k]? = some p) :
    (enc2418 v).getLsbD (p - 1) = v.getLsbD k := by
  have bits : dataPositions.map (fun p => (enc2418 v).getLsbD (p - 1)) =
      (List.range 18).map v.getLsbD := by
    simp [dataPositions, enc2418, ofBits_getElem, List.range_succ]
  have inRange : k < 18 := (List.getElem?_eq_some_iff.1 isData).1
  have bit := congrArg (·[k]?) bits
  simpa [isData, inRange] using bit

/-- Each protection bit is written as the complement of the sum of the other bits its test reads. -/
theorem enc2418_getLsbD_protection (v : BitVec 18) : ∀ test ∈ protectionTests,
    (enc2418 v).getLsbD (test.1 - 1) = !oddAt (test.2.erase test.1) (enc2418 v) := by
  simp [protectionTests, oddAt, enc2418, ofBits_getElem, List.range_succ]

theorem enc2418_tests_odd (v : BitVec 18) :
    ∀ test ∈ protectionTests, oddAt test.2 (enc2418 v) = true := by
  intro test isTest
  rw [oddAt_test isTest, enc2418_getLsbD_protection v test isTest, Bool.not_xor_self]

theorem syndromeOf_enc2418 (v : BitVec 18) : syndromeOf (enc2418 v) = 0#6 :=
  syndromeOf_eq_zero_of_tests_odd (enc2418_tests_odd v)

theorem eq_enc2418_of_data_and_tests {v : BitVec 18} {w : BitVec 24}
    (data : ∀ k p, dataPositions[k]? = some p → w.getLsbD (p - 1) = v.getLsbD k)
    (tests : ∀ test ∈ protectionTests, oddAt test.2 w = true) : w = enc2418 v := by
  refine codeword_eq_of_data_and_tests (fun p inList => ?_) fun test isTest => ?_
  · obtain ⟨k, isData⟩ := List.mem_iff_getElem?.1 inList
    rw [data k p isData, enc2418_getLsbD_data isData]
  · rw [tests test isTest, enc2418_tests_odd v test isTest]

/-- Settles O11: the encoder writes the data bits in place and the protection bits from the tests,
which no other codeword does; the four examples are evaluated. -/
theorem encoderSetsEveryTestOdd : Obligations.EncoderSetsEveryTestOdd := by
  refine ⟨fun v => ⟨fun _ _ => enc2418_getLsbD_data, enc2418_tests_odd v,
    fun _ => eq_enc2418_of_data_and_tests⟩, ?examples⟩
  case examples => decide +kernel

/-! ## The syndrome of a triplet -/

theorem codewordOf_bytes (w : BitVec 24) :
    codewordOf (w.extractLsb' 0 8) (w.extractLsb' 8 8) (w.extractLsb' 16 8) = w := by
  have upper : w.extractLsb' 16 8 ++ w.extractLsb' 8 8 = w.extractLsb' 8 16 :=
    BitVec.extractLsb'_append_extractLsb'_eq_extractLsb' rfl
  rw [codewordOf, upper]
  exact (BitVec.extractLsb'_append_extractLsb'_eq_extractLsb' rfl).trans BitVec.extractLsb'_eq_self

theorem syndrome_bytes (w : BitVec 24) :
    syndrome (w.extractLsb' 0 8) (w.extractLsb' 8 8) (w.extractLsb' 16 8) = syndromeOf w := by
  rw [syndrome_eq_syndromeOf, codewordOf_bytes]

theorem syndromeOf_enc2418_flip (v : BitVec 18) {k : Nat} (hk : k < 24) :
    syndromeOf (enc2418 v ^^^ (1#24 <<< k)) = positionWeight (k + 1) := by
  rw [syndromeOf_flip _ hk, syndromeOf_enc2418, BitVec.zero_xor]

theorem positionWeight_eq_add : ∀ p ≤ 24, 1 ≤ p →
    positionWeight p = if p = 24 then 0x20#6 else BitVec.ofNat 6 (0x20 + p) := by
  decide

/-- Settles O14: a syndrome bit is the complement of its test's parity, and a single flipped bit
leaves the weight of its position. -/
theorem syndromeReportsFailedTests : Obligations.SyndromeReportsFailedTests := by
  refine ⟨fun t0 t1 t2 k test isTest => ?tests, fun v w => ⟨?noneFlipped, ?oneFlipped⟩⟩
  case tests => rw [syndrome_eq_syndromeOf, syndromeOf_getLsbD _ isTest]
  case noneFlipped =>
    rintro rfl
    rw [syndrome_bytes, syndromeOf_enc2418]
  case oneFlipped =>
    rintro p positive inWord rfl
    have inRange : p - 1 < 24 := by omega
    rw [syndrome_bytes, syndromeOf_enc2418_flip v inRange, Nat.sub_add_cancel positive,
      positionWeight_eq_add p inWord positive]

end Sys2Proof.Machine
end

section
/-! Proofs about the operation HAM2418 (41_hamming2418.md R100, R106, R107, R109, R110). -/

namespace Sys2Proof.Machine

/-! ## The closed form, branch by branch -/

theorem ham2418ByFormula_of_syndrome_zero {w : BitVec 24} (none_wrong : syndromeOf w = 0#6) :
    ham2418ByFormula w = splitTriplet (dataOf w) := by
  rw [ham2418ByFormula, none_wrong]
  rfl

theorem ham2418ByFormula_of_uncorrectable {w : BitVec 24} (wrong : (syndromeOf w).toNat ≠ 0)
    (bad : (syndromeOf w).toNat < 0x20 ∨ 0x38 ≤ (syndromeOf w).toNat) :
    ham2418ByFormula w = sentinelTriplet := by
  simp only [ham2418ByFormula, if_neg wrong, if_pos bad]

theorem ham2418ByFormula_of_located {w : BitVec 24} (low : 0x20 ≤ (syndromeOf w).toNat)
    (high : (syndromeOf w).toNat < 0x38) :
    ham2418ByFormula w =
      splitTriplet (dataOf w ^^^ positionMask ((syndromeOf w).toNat % 32)) := by
  have wrong : (syndromeOf w).toNat ≠ 0 := by omega
  have good : ¬ ((syndromeOf w).toNat < 0x20 ∨ 0x38 ≤ (syndromeOf w).toNat) := by omega
  simp only [ham2418ByFormula, if_neg wrong, if_neg good]

theorem answers_ham2418_of_ham2418ByFormula {t0 t1 t2 : Byte} {r : Response}
    (value : ham2418ByFormula (codewordOf t0 t1 t2) = r) (s : State) :
    Answers (.ham2418 t0 t1 t2) s r :=
  value ▸ decodeTriplet_eq_ham2418ByFormula t0 t1 t2 ▸ answers_ham2418 t0 t1 t2 s

theorem answers_ham2418Of_of_ham2418ByFormula {w : BitVec 24} {r : Response}
    (value : ham2418ByFormula w = r) (s : State) : Answers (ham2418Of w) s r :=
  answers_ham2418_of_ham2418ByFormula
    ((congrArg ham2418ByFormula (codewordOf_bytes w)).trans value) s

/-- Settles O6: the response by tables is the closed form's. -/
theorem ham2418AnswersClosedForm : Obligations.Ham2418AnswersClosedForm :=
  fun _ _ _ s => answers_ham2418_of_ham2418ByFormula rfl s

/-! ## The data bits -/

/-- Bit `k` of the raw value is the bit at the `k`-th data position. -/
theorem dataOf_getLsbD (w : BitVec 24) (k : Nat) :
    (dataOf w).getLsbD k = (dataPositions[k]?).any fun p => w.getLsbD (p - 1) := by
  by_cases inRange : k < 18
  · have bits : (List.range 18).map (dataOf w).getLsbD =
        dataPositions.map fun p => w.getLsbD (p - 1) := by
      simp [dataPositions, dataOf, List.range_succ]
    have isData : dataPositions[k]? = some dataPositions[k] := List.getElem?_eq_getElem inRange
    have bit := congrArg (·[k]?) bits
    simpa [isData, inRange] using bit
  · have noData : dataPositions[k]? = none := List.getElem?_eq_none (Nat.not_lt.1 inRange)
    rw [noData]
    simp [dataOf, show ¬ k < 1 by omega, show ¬ k - 1 < 3 by omega, show ¬ k - 4 < 7 by omega,
      show ¬ k - 11 < 7 by omega]

theorem dataOf_xor (w e : BitVec 24) : dataOf (w ^^^ e) = dataOf w ^^^ dataOf e := by
  refine BitVec.eq_of_getLsbD_eq fun k _ => ?_
  rw [BitVec.getLsbD_xor, dataOf_getLsbD, dataOf_getLsbD, dataOf_getLsbD]
  cases dataPositions[k]? with
  | none => rfl
  | some p => exact BitVec.getLsbD_xor

theorem dataOf_enc2418 (v : BitVec 18) : dataOf (enc2418 v) = v.setWidth 32 := by
  refine BitVec.eq_of_getLsbD_eq fun k hk => ?_
  rw [dataOf_getLsbD, BitVec.getLsbD_setWidth, decide_eq_true hk, Bool.true_and]
  cases isData : dataPositions[k]? with
  | none => exact (BitVec.getLsbD_of_ge v k (List.getElem?_eq_none_iff.1 isData)).symm
  | some p => exact enc2418_getLsbD_data isData

theorem splitTriplet_setWidth (v : BitVec 18) : splitTriplet (v.setWidth 32) = tripletOf v := by
  have field {start : Nat} (inside : start + 6 ≤ 18) :
      (v.setWidth 32).extractLsb' start 6 = v.extractLsb' start 6 := by
    refine BitVec.eq_of_getLsbD_eq fun i hi => ?_
    simp [hi, show start + i < 32 by omega]
  rw [splitTriplet, tripletOf, field (by decide), field (by decide), field (by decide)]

/-! ## Codewords with at most two wrong bits (R109) -/

theorem positionWeight_range : ∀ k < 24,
    0x20 ≤ (positionWeight (k + 1)).toNat ∧ (positionWeight (k + 1)).toNat < 0x38 := by
  decide

/-- The correcting mask of a position is what a wrong bit there puts into the data bits (R105). -/
theorem dataOf_bit_eq_positionMask : ∀ k < 24,
    dataOf (1#24 <<< k) = positionMask ((positionWeight (k + 1)).toNat % 32) := by
  decide

/-- Bit 5 of two weights cancels, and distinct positions differ in a lower bit (24 counts as 0). -/
theorem positionWeight_xor_range : ∀ j < 24, ∀ k < 24, j ≠ k →
    (positionWeight (j + 1) ^^^ positionWeight (k + 1)).toNat ≠ 0 ∧
      (positionWeight (j + 1) ^^^ positionWeight (k + 1)).toNat < 0x20 := by
  decide

theorem ham2418ByFormula_enc2418 (v : BitVec 18) : ham2418ByFormula (enc2418 v) = tripletOf v := by
  rw [ham2418ByFormula_of_syndrome_zero (syndromeOf_enc2418 v), dataOf_enc2418,
    splitTriplet_setWidth]

/-- The syndrome is the wrong bit's weight, and the mask of its position takes the error out. -/
theorem ham2418ByFormula_enc2418_flip (v : BitVec 18) {k : Nat} (hk : k < 24) :
    ham2418ByFormula (enc2418 v ^^^ (1#24 <<< k)) = tripletOf v := by
  have located := syndromeOf_enc2418_flip v hk
  obtain ⟨low, high⟩ := positionWeight_range k hk
  rw [← located] at low high
  rw [ham2418ByFormula_of_located low high, located, dataOf_xor, dataOf_bit_eq_positionMask k hk,
    xor_xor_self_right, dataOf_enc2418, splitTriplet_setWidth]

/-- The syndrome is the sum of two distinct weights, which is uncorrectable. -/
theorem ham2418ByFormula_enc2418_two_flips (v : BitVec 18) {j k : Nat} (hj : j < 24) (hk : k < 24)
    (distinct : j ≠ k) :
    ham2418ByFormula (enc2418 v ^^^ (1#24 <<< j) ^^^ (1#24 <<< k)) = sentinelTriplet := by
  have sum : syndromeOf (enc2418 v ^^^ (1#24 <<< j) ^^^ (1#24 <<< k)) =
      positionWeight (j + 1) ^^^ positionWeight (k + 1) := by
    rw [syndromeOf_flip _ hk, syndromeOf_enc2418_flip v hj]
  obtain ⟨wrong, low⟩ := positionWeight_xor_range j hj k hk distinct
  rw [← sum] at wrong low
  exact ham2418ByFormula_of_uncorrectable wrong (.inl low)

/-- Settles O7 through the closed form. -/
theorem ham2418CorrectsSingleErrors : Obligations.Ham2418CorrectsSingleErrors :=
  fun v s => ⟨answers_ham2418Of_of_ham2418ByFormula (ham2418ByFormula_enc2418 v) s,
    fun _ hk => answers_ham2418Of_of_ham2418ByFormula (ham2418ByFormula_enc2418_flip v hk) s⟩

/-- Settles O8 through the closed form. -/
theorem ham2418DetectsDoubleErrors : Obligations.Ham2418DetectsDoubleErrors :=
  fun v s _ _ hj hk distinct => answers_ham2418Of_of_ham2418ByFormula
    (ham2418ByFormula_enc2418_two_flips v hj hk distinct) s

/-! ## Step 4 (R106) -/

theorem tErr_eq_flag_or_lt : ∀ syn : BitVec 6,
    tErr syn = uncorrectableMask ∨ (tErr syn).toNat < 2 ^ 18 := by
  decide

theorem correctionSucceeded_iff (res32 : BitVec 32) :
    correctionSucceeded res32 = true ↔ res32 < 0x80000000#32 := BitVec.ult_iff_lt

theorem toNat_field (v : BitVec 32) (start : Nat) :
    (v.extractLsb' start 6).setWidth 8 = BitVec.ofNat 8 (v.toNat / 2 ^ start % 64) := by
  rw [← BitVec.toNat_inj, BitVec.toNat_setWidth, BitVec.extractLsb'_toNat, BitVec.toNat_ofNat,
    Nat.shiftRight_eq_div_pow]

theorem splitTriplet_eq (v : BitVec 32) :
    splitTriplet v = .triplet (BitVec.ofNat 8 (v.toNat % 64))
      (BitVec.ofNat 8 (v.toNat / 64 % 64)) (BitVec.ofNat 8 (v.toNat / 4096 % 64)) := by
  simp only [splitTriplet, toNat_field, Nat.reducePow, Nat.div_one]

theorem answers_ham2418_of_corrected_lt {t0 t1 t2 : Byte}
    (succeeded : corrected t0 t1 t2 < 0x80000000#32) (s : State) :
    Answers (.ham2418 t0 t1 t2) s (splitTriplet (corrected t0 t1 t2)) := by
  have answer := answers_ham2418 t0 t1 t2 s
  rwa [decodeTriplet, if_pos ((correctionSucceeded_iff _).2 succeeded)] at answer

theorem answers_ham2418_of_not_corrected_lt {t0 t1 t2 : Byte}
    (failed : ¬ corrected t0 t1 t2 < 0x80000000#32) (s : State) :
    Answers (.ham2418 t0 t1 t2) s sentinelTriplet := by
  have answer := answers_ham2418 t0 t1 t2 s
  rwa [decodeTriplet, if_neg (mt (correctionSucceeded_iff _).1 failed)] at answer

theorem corrected_lt_of_mask_lt {t0 t1 t2 : Byte}
    (small : (tErr (syndrome t0 t1 t2)).toNat < 2 ^ 18) :
    (corrected t0 t1 t2).toNat < 2 ^ 18 := by
  have raw : ((raw18 t0 t1 t2).setWidth 32).toNat < 2 ^ 18 := by
    rw [BitVec.toNat_setWidth_of_le (by decide)]
    exact (raw18 t0 t1 t2).isLt
  rw [corrected, BitVec.toNat_xor]
  exact Nat.xor_lt_two_pow raw small

theorem not_corrected_lt_of_mask_flag {t0 t1 t2 : Byte}
    (flag : tErr (syndrome t0 t1 t2) = uncorrectableMask) :
    ¬ corrected t0 t1 t2 < 0x80000000#32 := by
  rw [← correctionSucceeded_iff, correctionSucceeded_corrected, flag]
  decide

/-- Settles O9: a mask is the flag or below 2^18, and so is then the corrected value. -/
theorem ham2418CorrectionSucceeds : Obligations.Ham2418CorrectionSucceeds := by
  rintro t0 t1 t2 s mask res32 rfl isRes
  obtain rfl : res32 = corrected t0 t1 t2 := isRes
  obtain flag | small := tErr_eq_flag_or_lt (syndrome t0 t1 t2)
  · have failed := not_corrected_lt_of_mask_flag flag
    exact ⟨iff_of_false failed (not_not_intro flag), fun succeeded => absurd succeeded failed,
      fun _ => answers_ham2418_of_not_corrected_lt failed s⟩
  · have below := corrected_lt_of_mask_lt small
    have succeeded : corrected t0 t1 t2 < 0x80000000#32 :=
      BitVec.lt_def.2 (below.trans (by decide))
    have unflagged : tErr (syndrome t0 t1 t2) ≠ 0x80000000#32 := fun flag =>
      absurd small (by rw [flag]; decide)
    exact ⟨iff_of_true succeeded unflagged,
      fun _ => ⟨below, splitTriplet_eq _ ▸ answers_ham2418_of_corrected_lt succeeded s⟩,
      fun failed => absurd succeeded failed⟩

/-! ## The sentinel (R107) -/

theorem decodeTriplet_eq_triplet (t0 t1 t2 : Byte) : ∃ r0 r1 r2 : Byte,
    decodeTriplet t0 t1 t2 = .triplet r0 r1 r2 ∧
      ((r0.toNat ≤ 0x3F ∧ r1.toNat ≤ 0x3F ∧ r2.toNat ≤ 0x3F) ∨
        (r0 = 0xFF#8 ∧ r1 = 0xFF#8 ∧ r2 = 0xFF#8)) := by
  have sound := decodeTriplet_sound t0 t1 t2
  cases response : decodeTriplet t0 t1 t2 with
  | triplet r0 r1 r2 => exact ⟨r0, r1, r2, rfl, by rwa [response] at sound⟩
  | byte r => exact absurd sound (by simp [response, Delivery.sound])
  | packet p => exact absurd sound (by simp [response, Delivery.sound])

theorem no_sentinel_mark_of_le : ∀ r : Byte, r.toNat ≤ 0x3F →
    r ≠ 0xFF#8 ∧ r.getLsbD 7 ≠ true ∧ r.getLsbD 6 ≠ true := by
  decide

/-- Settles O10: a decoded byte bears none of the three marks, a sentinel byte all of them. -/
theorem ham2418SentinelUnambiguous : Obligations.Ham2418SentinelUnambiguous := by
  intro t0 t1 t2 s
  obtain ⟨r0, r1, r2, response, range⟩ := decodeTriplet_eq_triplet t0 t1 t2
  refine ⟨r0, r1, r2, response ▸ answers_ham2418 t0 t1 t2 s, range, fun r inTriplet => ?_⟩
  simp only [List.mem_cons, List.not_mem_nil, or_false] at inTriplet
  obtain ⟨le0, le1, le2⟩ | sentinel := range
  · have le : r.toNat ≤ 0x3F := by obtain rfl | rfl | rfl := inTriplet <;> assumption
    obtain ⟨ne0, -, -⟩ := no_sentinel_mark_of_le r0 le0
    obtain ⟨ne, bit7, bit6⟩ := no_sentinel_mark_of_le r le
    have decoded : ¬ (r0 = 0xFF#8 ∧ r1 = 0xFF#8 ∧ r2 = 0xFF#8) := fun ⟨eq0, _⟩ => ne0 eq0
    exact ⟨iff_of_false ne decoded, iff_of_false bit7 decoded, iff_of_false bit6 decoded⟩
  · obtain rfl : r = 0xFF#8 := by
      obtain ⟨eq0, eq1, eq2⟩ := sentinel
      obtain rfl | rfl | rfl := inTriplet <;> assumption
    exact ⟨iff_of_true rfl sentinel, iff_of_true rfl sentinel, iff_of_true rfl sentinel⟩

end Sys2Proof.Machine
end

section
/-! Proofs about ODDPAR (42_oddparity.md R120 to R122).  Flipping bit 7 changes the parity and keeps
the data, so of the two bytes with given data one has odd and one even parity. -/

namespace Sys2Proof.Machine

/-! ## The two branches of R120 -/

theorem parity_eq_zero_or_one {w : Nat} (v : BitVec w) : parity v = 0 ∨ parity v = 1 :=
  Nat.mod_two_eq_zero_or_one (popcount v)

theorem answers_oddpar_byte_iff {b r : Byte} {s : State} :
    Answers (.oddpar b) s (.byte r) ↔ decodeParity b = r :=
  ⟨fun answer => Response.byte.inj ((answers_oddpar b s).unique answer),
    fun value => value ▸ answers_oddpar b s⟩

theorem decodeParity_of_odd {b : Byte} (odd : parity b = 1) : decodeParity b = b &&& 0x7F#8 := by
  rw [decodeParity_eq, if_pos odd]

theorem decodeParity_of_even {b : Byte} (even : parity b = 0) : decodeParity b = 0x20#8 := by
  rw [decodeParity_eq, even, if_neg Nat.zero_ne_one]

/-- Settles O15: the model's `parity` is the count of R120 modulo 2. -/
theorem oddparAnswers : Obligations.OddparAnswers :=
  fun b _ => answers_oddpar_byte_iff.2 (decodeParity_eq b)

/-! ## Flipped bits (R121) -/

theorem parity_flip_eq_zero_iff (b : Byte) {i : Nat} (hi : i < 8) :
    parity (b ^^^ (1#8 <<< i)) = 0 ↔ parity b = 1 := by
  rw [parity_flip b hi]
  obtain even | odd := parity_eq_zero_or_one b
  · simp [even]
  · simp [odd]

theorem parity_flip_eq_one_iff (b : Byte) {i : Nat} (hi : i < 8) :
    parity (b ^^^ (1#8 <<< i)) = 1 ↔ parity b = 0 := by
  rw [← parity_flip_eq_zero_iff _ hi, xor_xor_self_right]

theorem parity_two_flips_of_odd {b : Byte} (odd : parity b = 1) {i j : Nat} (hi : i < 8)
    (hj : j < 8) : parity (b ^^^ (1#8 <<< i) ^^^ (1#8 <<< j)) = 1 :=
  (parity_flip_eq_one_iff _ hj).2 ((parity_flip_eq_zero_iff b hi).2 odd)

theorem bit_injective : ∀ i < 8, ∀ j < 8, 1#8 <<< i = 1#8 <<< j → i = j := by decide

theorem two_flips_ne (b : Byte) {i j : Nat} (hi : i < 8) (hj : j < 8) (distinct : i ≠ j) :
    b ^^^ (1#8 <<< i) ^^^ (1#8 <<< j) ≠ b := by
  intro same
  have cancels := same.trans (xor_xor_self_right b (1#8 <<< i)).symm
  exact distinct (bit_injective j hj i hi ((BitVec.xor_right_inj _).1 cancels)).symm

/-! ## The data and the parity determine the byte (R121) -/

theorem data_xor (a b : Byte) :
    (a ^^^ b) &&& 0x7F#8 = (a &&& 0x7F#8) ^^^ (b &&& 0x7F#8) :=
  BitVec.eq_of_toNat_eq (Nat.and_xor_distrib_right ..)

theorem data_flip_bit7 (b : Byte) : (b ^^^ (1#8 <<< 7)) &&& 0x7F#8 = b &&& 0x7F#8 := by
  rw [data_xor]
  exact BitVec.xor_zero

theorem eq_zero_or_bit7_of_data_eq_zero : ∀ e : Byte, e &&& 0x7F#8 = 0#8 →
    e = 0#8 ∨ e = 1#8 <<< 7 := by decide

theorem eq_or_eq_flip_bit7_of_data_eq {b b' : Byte} (same : b &&& 0x7F#8 = b' &&& 0x7F#8) :
    b = b' ∨ b = b' ^^^ (1#8 <<< 7) := by
  have noData : (b' ^^^ b) &&& 0x7F#8 = 0#8 := by rw [data_xor, same, BitVec.xor_self]
  obtain equal | bit7 := eq_zero_or_bit7_of_data_eq_zero _ noData
  · exact .inl (BitVec.xor_eq_zero_iff.1 equal).symm
  · exact .inr (by rw [← bit7, xor_xor_self_left])

theorem data_eq_self_of_le : ∀ r : Byte, r.toNat ≤ 0x7F → r &&& 0x7F#8 = r := by decide

/-- Bytes with the same data are equal or differ in bit 7 alone, which would change the parity. -/
theorem eq_of_odd_of_data_eq {b b' : Byte} (odd : parity b = 1) (odd' : parity b' = 1)
    (same : b &&& 0x7F#8 = b' &&& 0x7F#8) : b = b' := by
  obtain equal | flipped := eq_or_eq_flip_bit7_of_data_eq same
  · exact equal
  · rw [flipped, parity_flip_eq_one_iff b' (by decide), odd'] at odd
    exact absurd odd Nat.one_ne_zero

/-- The data itself, or the data with bit 7 set, has odd parity. -/
theorem exists_odd_of_data {r : Byte} (inRange : r.toNat ≤ 0x7F) :
    ∃ b : Byte, parity b = 1 ∧ b &&& 0x7F#8 = r := by
  have data := data_eq_self_of_le r inRange
  obtain even | odd := parity_eq_zero_or_one r
  · exact ⟨r ^^^ (1#8 <<< 7), (parity_flip_eq_one_iff r (by decide)).2 even,
      (data_flip_bit7 r).trans data⟩
  · exact ⟨r, odd, data⟩

theorem existsUnique_odd_of_data {r : Byte} (inRange : r.toNat ≤ 0x7F) :
    ∃! b : Byte, parity b = 1 ∧ b &&& 0x7F#8 = r := by
  obtain ⟨b, odd, data⟩ := exists_odd_of_data inRange
  exact ⟨b, ⟨odd, data⟩,
    fun b' ⟨odd', data'⟩ => eq_of_odd_of_data_eq odd' odd (data'.trans data.symm)⟩

/-! ## How many bytes (R121, R122) -/

theorem countP_odd_add_countP_even (l : List Nat) :
    (l.countP fun n => parity (BitVec.ofNat 8 n) == 1) +
      (l.countP fun n => parity (BitVec.ofNat 8 n) == 0) = l.length := by
  rw [l.length_eq_countP_add_countP fun n => parity (BitVec.ofNat 8 n) == 1]
  refine congrArg _ (List.countP_congr fun n _ => ?_)
  obtain even | odd := parity_eq_zero_or_one (BitVec.ofNat 8 n)
  · simp [even]
  · simp [odd]

theorem ofNat_add_128_eq_flip_bit7 : ∀ n < 128,
    BitVec.ofNat 8 (128 + n) = BitVec.ofNat 8 n ^^^ (1#8 <<< 7) := by decide

/-- Bit 7 pairs the bytes of odd parity in the upper half with those of even parity in the lower. -/
theorem countP_odd_upper_half :
    ((List.range 128).countP fun n => parity (BitVec.ofNat 8 (128 + n)) == 1) =
      (List.range 128).countP fun n => parity (BitVec.ofNat 8 n) == 0 := by
  refine List.countP_congr fun n inLower => ?_
  rw [ofNat_add_128_eq_flip_bit7 n (List.mem_range.1 inLower), beq_iff_eq, beq_iff_eq,
    parity_flip_eq_one_iff _ (by decide)]

theorem countP_odd_bytes :
    ((List.range 256).countP fun n => parity (BitVec.ofNat 8 n) == 1) = 128 := by
  calc (List.range (128 + 128)).countP (fun n => parity (BitVec.ofNat 8 n) == 1)
    _ = (List.range 128).countP (fun n => parity (BitVec.ofNat 8 n) == 1) +
        (List.range 128).countP (fun n => parity (BitVec.ofNat 8 (128 + n)) == 1) := by
      rw [List.range_add, List.countP_append, List.countP_map]; rfl
    _ = 128 := by rw [countP_odd_upper_half, countP_odd_add_countP_even, List.length_range]

theorem countP_even_bytes :
    ((List.range 256).countP fun n => parity (BitVec.ofNat 8 n) == 0) = 128 := by
  have both := countP_odd_add_countP_even (List.range 256)
  rw [countP_odd_bytes, List.length_range] at both
  exact Nat.add_left_cancel both

theorem countP_or_of_disjoint {α : Type} {p q : α → Bool} (l : List α)
    (disjoint : ∀ a, p a = true → q a = false) :
    (l.countP fun a => p a || q a) = l.countP p + l.countP q := by
  induction l with
  | nil => rfl
  | cons a as ih =>
    cases hp : p a
    · cases hq : q a <;> simp [hp, hq, ih, Nat.add_assoc]
    · simp [hp, disjoint a hp, ih, Nat.add_right_comm]

theorem countP_byte_eq_space :
    ((List.range 256).countP fun n => BitVec.ofNat 8 n == 0x20#8) = 1 := by
  have byPlace : (List.range 256).countP (fun n => BitVec.ofNat 8 n == 0x20#8) =
      (List.range 256).count 0x20 := by
    refine List.countP_congr fun n inByte => ?_
    rw [beq_iff_eq, beq_iff_eq, ← BitVec.toNat_inj, BitVec.toNat_ofNat,
      Nat.mod_eq_of_lt (List.mem_range.1 inByte)]
    rfl
  rw [byPlace, List.count_range, if_pos (by decide)]

theorem parity_space : parity 0x20#8 = 1 := by decide

/-- Settles O16 clause by clause. -/
theorem oddparKeepsOddReplacesEven : Obligations.OddparKeepsOddReplacesEven :=
  ⟨fun _ _ odd => answers_oddpar_byte_iff.2 (decodeParity_of_odd odd),
    fun _ _ even => answers_oddpar_byte_iff.2 (decodeParity_of_even even),
    countP_odd_bytes,
    fun _ inRange => existsUnique_odd_of_data inRange,
    fun b _ _ hi odd =>
      answers_oddpar_byte_iff.2 (decodeParity_of_even ((parity_flip_eq_zero_iff b hi).2 odd)),
    fun b _ _ _ hi hj distinct odd =>
      have odd' := parity_two_flips_of_odd odd hi hj
      ⟨answers_oddpar_byte_iff.2 (decodeParity_of_odd odd'),
        fun same => two_flips_ne b hi hj distinct (eq_of_odd_of_data_eq odd' odd same)⟩⟩

/-- By `eq_of_odd_of_data_eq` the space has one valid encoding, `0x20`. -/
theorem decodeParity_eq_space_iff (b : Byte) :
    decodeParity b = 0x20#8 ↔ b = 0x20#8 ∨ parity b = 0 := by
  obtain even | odd := parity_eq_zero_or_one b
  · exact iff_of_true (decodeParity_of_even even) (.inr even)
  · rw [decodeParity_of_odd odd, odd, or_iff_left Nat.one_ne_zero]
    exact ⟨eq_of_odd_of_data_eq odd parity_space, congrArg (· &&& 0x7F#8)⟩

/-- Settles O17: `0x20` has odd parity, so it is counted beside the 128 bytes of even parity. -/
theorem oddparFailureLooksLikeSpace : Obligations.OddparFailureLooksLikeSpace := by
  refine ⟨fun b _ => answers_oddpar_byte_iff.trans (decodeParity_eq_space_iff b), ?count⟩
  case count =>
    have disjoint : ∀ n, (BitVec.ofNat 8 n == 0x20#8) = true →
        (parity (BitVec.ofNat 8 n) == 0) = false := fun n space => by
      rw [beq_iff_eq.1 space, parity_space]; rfl
    exact (countP_or_of_disjoint _ disjoint).trans
      (congrArg₂ _ countP_byte_eq_space countP_even_bytes)

end Sys2Proof.Machine
end

section
/-! Proofs about REV8 (43_reverse.md R125 to R127).  Everything follows from where `T_REV` puts each
bit: bit `i` of the result is bit `7 - i` of the operand. -/

namespace Sys2Proof.Machine

theorem answers_rev8_byte_iff {b r : Byte} {s : State} :
    Answers (.rev8 b) s (.byte r) ↔ tRev b = r :=
  ⟨fun answer => Response.byte.inj ((answers_rev8 b s).unique answer),
    fun value => value ▸ answers_rev8 b s⟩

/-! ## The bits of the result (R125) -/

theorem tRev_getLsbD (b : Byte) {i : Nat} (hi : i < 8) :
    (tRev b).getLsbD i = b.getLsbD (7 - i) := by
  rw [tRev_eq_revByFormula, revByFormula, ofBits_getLsbD]
  interval_cases i <;> rfl

/-- The equations of bits `i` and `7 - i` are one, so four of the eight are enough. -/
theorem tRev_eq_self_iff_mirrored (b : Byte) :
    tRev b = b ↔ ∀ i < 4, b.getLsbD (7 - i) = b.getLsbD i := by
  constructor
  · intro fixed i hi
    rw [← tRev_getLsbD b (by omega), fixed]
  · intro mirrored
    refine BitVec.eq_of_getLsbD_eq fun i hi => ?_
    rw [tRev_getLsbD b hi]
    obtain low | high := Nat.lt_or_ge i 4
    · exact mirrored i low
    · have mirror := mirrored (7 - i) (by omega)
      rw [Nat.sub_sub_self (by omega)] at mirror
      exact mirror.symm

theorem mirrored_iff_mem_fixed_bytes : ∀ b : Byte, (∀ i < 4, b.getLsbD (7 - i) = b.getLsbD i) ↔
    b ∈ [0x00#8, 0x18#8, 0x24#8, 0x3C#8, 0x42#8, 0x5A#8, 0x66#8, 0x7E#8, 0x81#8, 0x99#8, 0xA5#8,
      0xBD#8, 0xC3#8, 0xDB#8, 0xE7#8, 0xFF#8] := by decide

/-- Settles O18: the fixed bytes are those that satisfy the four equations between mirrored bits. -/
theorem rev8MirrorsBits : Obligations.Rev8MirrorsBits :=
  fun b s => ⟨tRev b, answers_rev8 b s, fun _ hi => tRev_getLsbD b hi, popcount_tRev b,
    (tRev_eq_self_iff_mirrored b).trans (mirrored_iff_mem_fixed_bytes b)⟩

/-! ## Reversing twice (R127) -/

theorem tRev_involutive : Function.Involutive tRev := by
  intro b
  refine BitVec.eq_of_getLsbD_eq fun i hi => ?_
  calc (tRev (tRev b)).getLsbD i
    _ = (tRev b).getLsbD (7 - i) := tRev_getLsbD _ hi
    _ = b.getLsbD (7 - (7 - i)) := tRev_getLsbD b (by omega)
    _ = b.getLsbD i := by rw [Nat.sub_sub_self (by omega)]

/-- Settles O19: an involution is a bijection. -/
theorem rev8IsInvolution : Obligations.Rev8IsInvolution := by
  refine ⟨fun b s s' => ⟨tRev b, answers_rev8 b s, ?twice⟩, fun r s => ?once⟩
  case twice => exact answers_rev8_byte_iff.2 (tRev_involutive b)
  case once =>
    simp only [answers_rev8_byte_iff]
    exact tRev_involutive.bijective.existsUnique r

end Sys2Proof.Machine
end

section
/-! Proofs about FRAME (44_framer.md R130 to R144).  Each field of the Packet is read off the seven
steps once; the range check (R135), the classification (R134) and the error (R139) are then facts
about the packet number of two decoded address values. -/

namespace Sys2Proof.Machine

/-! ## The fields of the Packet -/

section
variable (line : LineFields)

@[simp] theorem framePacket_framingCode : (framePacket line).framingCode = line.framing := by
  rw [framePacket_eq]

@[simp] theorem framePacket_magazine :
    (framePacket line).magazine = some (magazineOfNibble (tHam84 line.addr1).toNat) := by
  rw [framePacket_eq]

@[simp] theorem framePacket_number :
    (framePacket line).number =
      numberOf (packetNumber (tHam84 line.addr1) (tHam84 line.addr2)) := by
  rw [framePacket_eq]

@[simp] theorem framePacket_type :
    (framePacket line).type =
      classify (packetNumber (tHam84 line.addr1) (tHam84 line.addr2))
        (some (magazineOfNibble (tHam84 line.addr1).toNat)) := by
  rw [framePacket_eq]

@[simp] theorem framePacket_decodingError :
    (framePacket line).decodingError =
      (framingWrong line.framing ||
        numberOutOfRange (packetNumber (tHam84 line.addr1) (tHam84 line.addr2))) := by
  rw [framePacket_eq]

@[simp] theorem framePacket_data : (framePacket line).data = line.payload := by
  rw [framePacket_eq]

end

/-! ## The conditions of the error (R139) -/

theorem framingWrong_iff (framingCode : Byte) :
    framingWrong framingCode = true ↔ framingCode ≠ 0xE4#8 := bne_iff_ne

theorem numberOutOfRange_iff (num : Nat) : numberOutOfRange num = true ↔ 31 < num :=
  decide_eq_true_iff

theorem numberOf_eq_none_iff (num : Nat) : numberOf num = none ↔ 31 < num :=
  ⟨fun absent => (numberOutOfRange_iff num).1 (numberOutOfRange_of_numberOf_eq_none absent),
    numberOf_eq_none⟩

/-! ## The packet number of two decoded address values (R133, R135) -/

theorem packetNumber_eq_or (address1 address2 : Byte) :
    packetNumber address1 address2 = address1.toNat / 8 ||| 2 * address2.toNat := by
  rw [packetNumber, Nat.shiftRight_eq_div_pow, Nat.shiftLeft_eq, Nat.mul_comm]

theorem packetNumber_le_of_nibble (x1 : Byte) {address2 : Byte} (nibble2 : address2.toNat < 16) :
    packetNumber (tHam84 x1) address2 ≤ 31 := by
  obtain sentinel1 | nibble1 := tHam84_eq_sentinel_or_nibble x1
  · rw [sentinel1, packetNumber_sentinel_nibble nibble2]
  · rw [packetNumber_of_nibble nibble1]
    omega

/-- The range check fails exactly when the second address byte does not decode (R135). -/
theorem packetNumber_gt_iff (x1 x2 : Byte) :
    31 < packetNumber (tHam84 x1) (tHam84 x2) ↔ tHam84 x2 = sentinelByte := by
  constructor
  · intro above
    refine (tHam84_eq_sentinel_or_nibble x2).resolve_right fun nibble2 => ?_
    exact absurd above (Nat.not_lt.2 (packetNumber_le_of_nibble x1 nibble2))
  · intro sentinel2
    rw [sentinel2]
    exact packetNumber_sentinel_gt _

theorem packetNumber_of_sentinel (x1 : Byte) :
    packetNumber (tHam84 x1) sentinelByte = 510 ∨ packetNumber (tHam84 x1) sentinelByte = 511 := by
  obtain sentinel1 | nibble1 := tHam84_eq_sentinel_or_nibble x1
  · rw [sentinel1]
    exact .inr rfl
  · rw [packetNumber_of_nibble nibble1, show sentinelByte.toNat = 255 from rfl]
    omega

/-! ## The magazine of the first address value (R132) -/

theorem masked_toNat_le (address1 : Byte) : (address1 &&& 0x07#8).toNat ≤ 7 := by
  rw [BitVec.toNat_and]
  exact Nat.and_le_right

theorem magazineOfNibble_of_zero {n : Nat} (zero : n % 8 = 0) : magazineOfNibble n = 8 :=
  if_pos zero

theorem magazineOfNibble_of_ne_zero {n : Nat} (nonzero : n % 8 ≠ 0) :
    magazineOfNibble n = n % 8 := if_neg nonzero

theorem magazineOfNibble_eq_eight_iff (n : Nat) : magazineOfNibble n = 8 ↔ n % 8 = 0 := by
  refine ⟨fun eight => ?_, magazineOfNibble_of_zero⟩
  by_contra nonzero
  rw [magazineOfNibble_of_ne_zero nonzero] at eight
  omega

/-! ## The rows of the classification table (R134), beside `classify_eq_unspecified` -/

section
variable (magazine : Option Nat)

theorem classify_zero : classify 0 magazine = .header := rfl

theorem classify_pageBody {num : Nat} (low : 1 ≤ num) (high : num ≤ 23) :
    classify num magazine = .pageBody := by
  rw [classify, if_neg (by omega), if_pos ⟨low, high⟩]

/-- The six numbers with a type of their own. -/
theorem classify_named :
    classify 24 magazine = .fastext ∧ classify 25 magazine = .topCommentary ∧
      classify 26 magazine = .pageReplacements ∧ classify 27 magazine = .linkedPages ∧
      classify 28 magazine = .pageEnhancements ∧ classify 29 magazine = .magazineEnhancements :=
  ⟨rfl, rfl, rfl, rfl, rfl, rfl⟩

theorem classify_thirty :
    classify 30 magazine =
      if magazine = some 8 then .broadcastServiceData else .unspecified := by
  simp [classify]

end

/-! ## The obligations -/

/-- Settles O20: the seven steps give the rows of R140. -/
theorem frameOutcomeByAddressBytes : Obligations.FrameOutcomeByAddressBytes := by
  intro b0 fc x1 x2 data s
  rw [← framePacket_eq_packetByOutcome ⟨fc, x1, x2, data⟩]
  exact answers_frame b0 fc x1 x2 data s

/-- Settles O21: of the three causes the magazine never occurs, and the number is absent exactly
when the second address byte does not decode. -/
theorem frameErrorAggregatesCauses : Obligations.FrameErrorAggregatesCauses := by
  intro b0 fc x1 x2 data s
  refine ⟨_, answers_frame b0 fc x1 x2 data s, ?causes, ?framing, ?magazine, ?number, ?closedForm⟩
  case causes => simp [framingWrong_iff, numberOutOfRange_iff, numberOf_eq_none_iff]
  case framing => simp [framingWrong_iff]
  case magazine => simp [magazineOutOfRange_eq_false]
  case number => simp [numberOutOfRange_iff, numberOf_eq_none_iff]
  case closedForm =>
    simp [framingWrong_iff, numberOutOfRange_iff, packetNumber_gt_iff, sentinelByte]

/-- Settles O22: `framePacket` reads the four fields of a line, and offset 0 is none of them. -/
theorem framePacketsAreLawful : Obligations.FramePacketsAreLawful := by
  intro buf s four
  obtain ⟨b0, fc, x1, x2, data, rfl⟩ := (four_le_length_iff buf).1 four
  refine ⟨_, answers_frame b0 fc x1 x2 data s, framePacket_lawful _, fun buf' s' same => ?_⟩
  cases buf' with
  | nil => cases same
  | cons b0' rest =>
    obtain rfl : rest = fc :: x1 :: x2 :: data := same
    exact answers_frame b0' fc x1 x2 data s'

/-- Settles O23: the masked value has three bits. -/
theorem frameMagazineNeverAbsent : Obligations.FrameMagazineNeverAbsent := by
  refine ⟨fun address1 => ⟨masked_toNat_le address1, magazineOutOfRange_eq_false _⟩, ?_⟩
  intro b0 fc x1 x2 data s
  exact ⟨_, answers_frame b0 fc x1 x2 data s, ⟨_, framePacket_magazine _⟩,
    framePacket_decodingError _⟩

/-- Settles O24: each clause is a row of the classification table, read at the packet number and
the magazine of the Packet. -/
theorem frameClassifiesByNumber : Obligations.FrameClassifiesByNumber := by
  intro b0 fc x1 x2 data s num isNumber
  rw [← packetNumber_eq_or] at isNumber
  refine ⟨_, answers_frame b0 fc x1 x2 data s, ?_⟩
  simp only [framePacket_type, framePacket_magazine, ← isNumber]
  generalize remapped : some (magazineOfNibble (tHam84 x1).toNat) = magazine
  obtain ⟨fastext, commentary, replacements, linked, enhancements, magEnhancements⟩ :=
    classify_named magazine
  refine ⟨fun eq => eq ▸ classify_zero magazine, classify_pageBody magazine,
    fun eq => eq ▸ fastext, fun eq => eq ▸ commentary, fun eq => eq ▸ replacements,
    fun eq => eq ▸ linked, fun eq => eq ▸ enhancements, fun eq => eq ▸ magEnhancements,
    ?broadcast, ?otherMagazine, ?magazineEight,
    fun above => classify_eq_unspecified above magazine⟩
  case broadcast =>
    intro thirty eight
    rw [thirty, classify_thirty, if_pos eight]
  case otherMagazine =>
    intro thirty other
    rw [thirty, classify_thirty, if_neg other]
  case magazineEight =>
    rw [← remapped, Option.some.injEq, magazineOfNibble_eq_eight_iff]

/-- Settles O25: an undecodable second address value alone carries the number past 31. -/
theorem frameRejectsNumbersAbove31 : Obligations.FrameRejectsNumbersAbove31 := by
  intro b0 fc x1 x2 data s num isNumber
  obtain rfl := isNumber.trans (packetNumber_eq_or _ _).symm
  refine ⟨_, answers_frame b0 fc x1 x2 data s, ?above, ?within, packetNumber_gt_iff x1 x2,
    ?undecodable⟩
  case above =>
    intro above
    simp [numberOf_eq_none above, numberOutOfRange_eq_true above]
  case within =>
    intro within
    simp [numberOf_eq_some within, numberOutOfRange_eq_false within, framingWrong_iff]
  case undecodable =>
    intro undecodable
    rw [undecodable]
    exact packetNumber_of_sentinel x1

/-- Settles O26: the remap reads the low three bits of the decoded value, sentinel or not. -/
theorem frameMagazineRemap : Obligations.FrameMagazineRemap := by
  intro b0 fc x1 x2 data s
  refine ⟨_, answers_frame b0 fc x1 x2 data s, fun zero => ?zero, fun nonzero => ?nonzero,
    fun undecodable => ?undecodable⟩
  case zero => rw [framePacket_magazine, magazineOfNibble_of_zero zero]
  case nonzero => rw [framePacket_magazine, magazineOfNibble_of_ne_zero nonzero]
  case undecodable =>
    rw [framePacket_magazine, undecodable]
    exact congrArg some magazineOfNibble_sentinel

/-- Settles O27: of the six fields only the framing code and the error read the framing byte. -/
theorem frameFramingCodeOnlySetsError : Obligations.FrameFramingCodeOnlySetsError := by
  intro b0 fc x1 x2 data s s'
  refine ⟨_, _, answers_frame b0 fc x1 x2 data s, answers_frame b0 0xE4#8 x1 x2 data s',
    framePacket_framingCode _, ?wrong, ?expected, ?otherFields⟩
  case wrong =>
    intro wrong
    rw [framePacket_decodingError, (framingWrong_iff fc).2 wrong, Bool.true_or]
  case expected =>
    rintro rfl
    rfl
  case otherFields =>
    simp only [framePacket_magazine, framePacket_number, framePacket_type, framePacket_data,
      and_self]

/-- Settles O28: the payload of a line of four or more bytes is what follows the fourth. -/
theorem frameCopiesPayload : Obligations.FrameCopiesPayload := by
  intro buf s four
  obtain ⟨b0, fc, x1, x2, data, rfl⟩ := (four_le_length_iff buf).1 four
  refine ⟨_, answers_frame b0 fc x1 x2 data s, ?payload, ?length, ?empty⟩
  case payload => simp
  case length => simp
  case empty =>
    intro noPayload
    simpa using noPayload

theorem decode_frame_eq_error_of_short {buf : List Byte} (short : buf.length < 4) :
    decode ⟨Op.frame.select, buf⟩ = .error (.lineTooShort buf.length) := by
  obtain ⟨row, matched, sameOp, -⟩ := rowOfSelect_of_op .frame
  simp only [decode, matched, sameOp]
  exact if_neg (Nat.not_le.2 short)

/-- Settles O29: a short line has no fields for `exec` and no instruction for the decoder, and the
steps refuse what the decoder refuses. -/
theorem frameRefusesShortLines : Obligations.FrameRefusesShortLines := by
  refine fun buf s => ⟨fun short => ?short, fun four => ?long⟩
  case short =>
    have undecodable := decode_frame_eq_error_of_short short
    exact ⟨exec_frame_of_lineFields_none ((lineFields_eq_none_iff buf).2 short) s, undecodable,
      refusedWhenServed_of_decode_eq_error undecodable⟩
  case long =>
    obtain ⟨b0, fc, x1, x2, data, rfl⟩ := (four_le_length_iff buf).1 four
    exact ⟨_, answers_frame b0 fc x1 x2 data s⟩

/-- Settles O49: a number the range check keeps is unchanged, and one it drops is Unspecified. -/
theorem classificationOrderUnobservable : Obligations.ClassificationOrderUnobservable := by
  intro numRaw magazine
  obtain above | within := Nat.lt_or_ge 31 numRaw
  · rw [numberOf_eq_none above, classify_eq_unspecified above.le]
  · rw [numberOf_eq_some within]

end Sys2Proof.Machine
end

section
/-! Proofs about exceptions (60_exceptions.md R160): an admitted request is always answered, and one
that does not decode is refused by the name of what is wrong with it. -/

namespace Sys2Proof.Machine

/-! ## Admitted requests -/

/-- The reset case of `step`, beside `step_eq_exec_of_takeRequest`. -/
theorem step_eq_abandonRequests_of_reset {s : State} (event : s.nextEvent = .reset) :
    step s = .next s.abandonRequests := by
  simp only [step, event]

/-- Settles O44: a well-formed instruction is answered by its closed form; a step meets a reset, finds
nothing to serve, or serves one of the admitted requests. -/
theorem admittedRequestsAlwaysAnswered : Obligations.AdmittedRequestsAlwaysAnswered := by
  constructor
  · intro i s wf
    obtain ⟨r, -, answers⟩ := operationsMatchClosedForms i s wf
    exact ⟨r, answers⟩
  · intro s adm
    cases event : s.nextEvent with
    | reset =>
      exact ⟨_, step_eq_abandonRequests_of_reset event, fun noReset => absurd rfl noReset⟩
    | serve place =>
      by_cases inProgress : s.requests = []
      · exact ⟨_, step_eq_idle_of_no_requests event inProgress,
          fun _ busy => absurd inProgress busy⟩
      · obtain ⟨r, rest, d, perm, -, stepped⟩ := step_serves_admitted event adm inProgress
        exact ⟨_, stepped, fun _ _ => ⟨perm.length_eq.symm, List.length_append⟩⟩

/-! ## Operands of another length than the format fixes -/

/-- FRAME is left out because its format fixes no length: a line too short has an error of its own
(20_memory.md R47). -/
theorem instrOf_eq_operandLength {op : Op} {operand : List Byte} (fixedLength : op ≠ .frame)
    (mismatch : op.format.admits operand.length = false) (sel : BitVec 3) :
    instrOf op sel operand = .error (.operandLength sel operand.length) := by
  unfold instrOf
  split
  case h_5 => exact absurd rfl fixedLength
  case h_6 | h_7 | h_8 | h_9 => rfl
  all_goals cases mismatch

theorem decode_eq_operandLength {r : Request} (op : Op) (select : r.op = op.select)
    (fixedLength : op ≠ .frame) (mismatch : op.format.admits r.operand.length = false) :
    decode r = .error (.operandLength r.op r.operand.length) := by
  obtain ⟨row, matched, sameOp, -⟩ := rowOfSelect_of_op op
  simp only [decode, select, matched, sameOp]
  exact instrOf_eq_operandLength fixedLength mismatch op.select

/-- Settles O50: a step refuses what the decoder refuses, and the decoder names the wrong length of
each operation's operand. -/
theorem undecodableRequestsRefused : Obligations.UndecodableRequestsRefused := by
  refine ⟨fun _ _ => refusedWhenServed_of_decode_eq_error, ?oneByte,
    fun operand notThree => ?threeBytes, fun operand short => ?line⟩
  case oneByte =>
    intro op operand oneByteSelect notOne
    have mismatch : Format.admits .b1 operand.length = false := beq_false_of_ne notOne
    have undecodable : decode ⟨op, operand⟩ = .error (.operandLength op operand.length) := by
      obtain rfl | rfl | rfl := oneByteSelect
      · exact decode_eq_operandLength .ham84 rfl nofun mismatch
      · exact decode_eq_operandLength .oddpar rfl nofun mismatch
      · exact decode_eq_operandLength .rev8 rfl nofun mismatch
    exact refusedWhenServed_of_decode_eq_error undecodable
  case threeBytes =>
    have undecodable : decode ⟨1#3, operand⟩ = .error (.operandLength 1#3 operand.length) :=
      decode_eq_operandLength .ham2418 rfl nofun (beq_false_of_ne notThree)
    exact refusedWhenServed_of_decode_eq_error undecodable
  case line =>
    exact refusedWhenServed_of_decode_eq_error (decode_frame_eq_error_of_short short)

end Sys2Proof.Machine
end

section
/-! Proofs about reset (70_reset_and_hazards.md R180): it leaves the block idle, and it drops what is in
progress. -/

namespace Sys2Proof.Machine

/-- Settles O38: with an empty schedule the reset state has nothing to serve, and an issued request is
its only one. -/
theorem firstRequestServedLikeAnyOther : Obligations.FirstRequestServedLikeAnyOther := by
  refine ⟨rfl, ?idle, fun r i decoded => ?firstRequest⟩
  case idle =>
    exact step_eq_idle_of_no_requests (State.nextEvent_nil State.reset rfl) rfl
  case firstRequest =>
    have taken : (State.reset.issue r).takeRequest 0 = some (r, State.reset) :=
      State.takeRequest_oldest [] r [] [] 0 (.inl rfl)
    exact step_eq_exec_of_takeRequest (State.nextEvent_nil _ rfl) taken decoded

/-- Settles O39: the reset drops the requests, takes its event off the schedule and leaves the record
of responses. -/
theorem resetAbandonsRequestsInProgress : Obligations.ResetAbandonsRequestsInProgress := by
  intro requests events done
  exact step_eq_abandonRequests_of_reset (State.nextEvent_cons _ _ _ rfl)

end Sys2Proof.Machine
end
